-- ==== Sys2Proof/Word.lean ====
section
/-! DEFINITION. Bit-vector types for what the manual treats as bits: bytes, sets of sector offsets
(00_scope, "Sets of sector offsets"; R176), sets of chunk positions (R176). All other quantities are
exact integers ("Arithmetic in this manual is exact integer arithmetic", 00_scope) and are `Nat`. -/

namespace Sys2Proof

abbrev Byte := BitVec 8

/-- A set of sector offsets 0 to 255 of a chunk; bit b stands for offset b (R176). -/
abbrev OffsetSet := BitVec 256

/-- A set of chunk positions 0 to 7 of a region; bit p stands for position p (R176). -/
abbrev ChunkSet := BitVec 8

end Sys2Proof
end

