-- ==== Sys2Proof/Syntax.lean ====
section
/-! DEFINITION. The commands of the block: one constructor of `Instr` for each row of the table of operations
and events, with the operands the event carries. Operations taken at the head of the Arrival Queue carry
nothing: their operands stand in the descriptor, which DESCRIPTOR_ARRIVAL brings (R157, R158). -/

namespace Sys2Proof

/-- The two ports (chapter 5). -/
inductive Port where
  | flash
  | disk
  deriving DecidableEq, Repr

/-- The Mover's two contexts (R129). -/
inductive CtxId where
  | ctx0
  | ctx1
  deriving DecidableEq, Repr

/-- Whether the Heat Unit takes a portion's access before or after the Router's changes to the map for that
portion; R34 and R68 leave the order open (DESIGN CHOICE, log entry 6: the order is the event's operand). -/
inductive AccessOrder where
  | accessFirst
  | routeFirst
  deriving DecidableEq, Repr

/-- A descriptor as the link delivers it (R176, R177): the 16-byte header and the payload, each as one
little-endian number, so byte i is bits 8i to 8i + 7. The payload field has room for the longest payload
(LOAD SLOTS, 4 records of 108 bytes); the bytes past an operation's payload are zero (`Descriptor.wf`). -/
structure Descriptor where
  header : BitVec 128
  payload : BitVec 3456
  deriving DecidableEq, Repr

inductive Instr where
  -- power and link
  | powerOn
  | linkReset
  | descriptorArrival (d : Descriptor)
  -- the head of the Arrival Queue: media operations
  | read
  | write
  | trim
  | sync
  | unknownOperation
  -- the head of the Arrival Queue: management operations
  | identify
  | setGeometry
  | loadSlots
  | setParametersWrite
  | setParametersRead
  | loadRange
  | clearHeatEmpty
  | clearHeatLevel
  | postJob
  | ackJob
  | setLowest
  | setMask
  | pollArbiter
  | readJobStatus
  | spinUp
  | spinDown
  | portRestart
  | readStatus
  | readEvents
  | setEventMask
  | holdBlocks
  | setCursor
  | readNext
  | enable
  -- the Router
  | routePortion (order : AccessOrder)
  | routeSync
  | fallbackPieceMake
  -- the Heat Unit
  | access
  | sweepVisit
  -- the retag walk and the Pin Scanner
  | retagVisit
  | pinScannerExamination
  -- the Job Arbiter and the Mover
  | grant
  | moverIssueRetry (ctx : CtxId)
  | watchdogExpiry (ctx : CtxId)
  -- port messages and port timers
  | pieceCompletion (port : Port) (id : Byte) (status : Byte) (offset : Byte)
  | abortFoundNothing (port : Port) (id : Byte)
  | pieceTimeout (port : Port) (id : Byte)
  | probeReady (port : Port) (spindle : Byte)
  | probeTimeout (port : Port)
  | halt
  | startReply (status : Byte)
  | stopReply
  -- spindle timers
  | startTimerExpiry
  | retryDelayExpiry
  | idleTimerExpiry
  -- the Reclaimer
  | reclaimerExamination
  | idleFlushExpiry
  | unknownPortMessage (port : Port) (message : BitVec 192)
  deriving DecidableEq, Repr

end Sys2Proof
end

