-- ==== Sys2Proof/Machine/Operands.lean ====
section
/-! DEFINITION. Operation codes (10.3) and the fields of descriptors: header, operands and payload records
(R176, R177, slot record of R178). -/

namespace Sys2Proof.Machine

/-- The known operations, by the codes of the summary in 10.3. -/
inductive Operation where
  | read | write | trim | sync
  | identify | setGeometry | loadSlots | setParameters | loadRange | clearHeat | postJob | ackJob
  | setLowest | setMask | pollArbiter | readJobStatus | spinUp | spinDown | portRestart | readStatus
  | readEvents | setEventMask | holdBlocks | setCursor | readNext | enable
  deriving DecidableEq, Repr

/-- The operation code table of 10.3. Any other code is unknown (R158). -/
def Operation.ofCode : Nat → Option Operation
  | 1 => some .read
  | 2 => some .write
  | 3 => some .trim
  | 4 => some .sync
  | 32 => some .identify
  | 33 => some .setGeometry
  | 34 => some .loadSlots
  | 35 => some .setParameters
  | 36 => some .loadRange
  | 37 => some .clearHeat
  | 38 => some .postJob
  | 39 => some .ackJob
  | 40 => some .setLowest
  | 41 => some .setMask
  | 42 => some .pollArbiter
  | 43 => some .readJobStatus
  | 44 => some .spinUp
  | 45 => some .spinDown
  | 46 => some .portRestart
  | 47 => some .readStatus
  | 48 => some .readEvents
  | 49 => some .setEventMask
  | 50 => some .holdBlocks
  | 51 => some .setCursor
  | 52 => some .readNext
  | 53 => some .enable
  | _ => none

/-- The length in bytes of the payload that an operation code fixes (R177). -/
def Operation.payloadLength : Operation → Nat
  | .read | .write => 8
  | .loadSlots => 432
  | .loadRange => 16
  | _ => 0

/-- The number in the `n` header bytes from byte `i` on, little-endian (R176). -/
def headerField (d : Descriptor) (i n : Nat) : Nat :=
  (d.header.extractLsb' (8 * i) (8 * n)).toNat

/-- The number in the `n` payload bytes from byte `i` on, little-endian (R176). -/
def payloadField (d : Descriptor) (i n : Nat) : Nat :=
  (d.payload.extractLsb' (8 * i) (8 * n)).toNat

/-- Byte 0 of the header (R177). -/
def opCode (d : Descriptor) : Nat := headerField d 0 1

def operation (d : Descriptor) : Option Operation := Operation.ofCode (opCode d)

/-- The tag is bits 0 to 4 of byte 1 (R176). -/
def tagOf (d : Descriptor) : Nat := headerField d 1 1 % 32

/-- Media LBA, bytes 4 to 9 (R177). -/
def lbaOf (d : Descriptor) : Nat := headerField d 4 6

/-- Media count, bytes 10 and 11; a field of 0 is read as 65,536 (R65, R176). -/
def countOf (d : Descriptor) : Nat :=
  if headerField d 10 2 = 0 then 65536 else headerField d 10 2

/-- The host buffer reference, 8 payload bytes of a READ or WRITE (R177). -/
def bufferRefOf (d : Descriptor) : BitVec 64 := d.payload.extractLsb' 0 64

/-- One slot record of LOAD SLOTS as the part reads it: "slot number, state, chunk-present flag, chunk, valid
set and dirty set, and ignores the other fields" (R178). -/
structure SlotLoad where
  slot : Nat
  stateCode : Nat
  chunkPresent : Bool
  chunk : Nat
  valid : OffsetSet
  dirty : OffsetSet
  deriving DecidableEq, Repr

/-- The slot record at position `k` of a LOAD SLOTS payload, 108 bytes each (R177, R178). -/
def slotLoad (d : Descriptor) (k : Nat) : SlotLoad where
  slot := payloadField d (108 * k) 2
  stateCode := payloadField d (108 * k + 2) 1
  chunkPresent := d.payload.getLsbD (8 * (108 * k + 3))
  chunk := payloadField d (108 * k + 8) 4
  valid := d.payload.extractLsb' (8 * (108 * k + 12)) 256
  dirty := d.payload.extractLsb' (8 * (108 * k + 44)) 256

/-- The records of a LOAD SLOTS descriptor with record count `n`; records past the count are ignored (R177). -/
def slotLoads (d : Descriptor) (n : Nat) : List SlotLoad := (List.range n).map (slotLoad d)

/-- SET PARAMETERS: "An access byte of 1 is WRITE. Every other value is READ" (R176). -/
def isWriteAccess (d : Descriptor) : Bool := headerField d 6 1 == 1

end Sys2Proof.Machine
end

