-- ==== Sys2Proof/Decode.lean ====
section
/-! DEFINITION. What bits name a command. The table of operations and events gives no row any bits, so no word
spells a command (`decodeTableWord`, log entry 30). The two decodings the spec does give are of a descriptor's
operation code (R158) and of a back-end message's type byte (R180, R181). -/

namespace Sys2Proof

/-- No row of the table gives bits. -/
def decodeTableWord (_nbits _w : Nat) : Option Instr := none

open Machine in
/-- The command that takes a given descriptor at the head of the Arrival Queue (R158, R176). A CLEAR HEAT whose
option byte is neither EMPTY nor LEVEL is refused by either of its two rows (log entry 22). -/
def headCommand (d : Descriptor) : Instr :=
  match operation d with
  | none => .unknownOperation
  | some .read => .read
  | some .write => .write
  | some .trim => .trim
  | some .sync => .sync
  | some .identify => .identify
  | some .setGeometry => .setGeometry
  | some .loadSlots => .loadSlots
  | some .setParameters => if isWriteAccess d then .setParametersWrite else .setParametersRead
  | some .loadRange => .loadRange
  | some .clearHeat => if headerField d 4 1 = 1 then .clearHeatLevel else .clearHeatEmpty
  | some .postJob => .postJob
  | some .ackJob => .ackJob
  | some .setLowest => .setLowest
  | some .setMask => .setMask
  | some .pollArbiter => .pollArbiter
  | some .readJobStatus => .readJobStatus
  | some .spinUp => .spinUp
  | some .spinDown => .spinDown
  | some .portRestart => .portRestart
  | some .readStatus => .readStatus
  | some .readEvents => .readEvents
  | some .setEventMask => .setEventMask
  | some .holdBlocks => .holdBlocks
  | some .setCursor => .setCursor
  | some .readNext => .readNext
  | some .enable => .enable

/-- Byte `i` of a 24-byte port message (R180). -/
def messageByte (m : BitVec 192) (i : Nat) : Byte := m.extractLsb' (8 * i) 8

/-- The command that a back-end message is, by its type byte (R180, R181). Types 4 to 6 on the Flash Port, unlisted
types, a COMPLETION status above 3 and a START REPLY status above 1 (log entry 14) are discarded messages. -/
def decodePortMessage (p : Port) (m : BitVec 192) : Instr :=
  match (messageByte m 0).toNat, p with
  | 1, p =>
    if (messageByte m 2).toNat ≤ 3 then .pieceCompletion p (messageByte m 1) (messageByte m 2) (messageByte m 3)
    else .unknownPortMessage p m
  | 2, p => .probeReady p (messageByte m 2)
  | 3, p => .abortFoundNothing p (messageByte m 1)
  | 4, .disk => if (messageByte m 2).toNat ≤ 1 then .startReply (messageByte m 2) else .unknownPortMessage .disk m
  | 5, .disk => .stopReply
  | 6, .disk => .halt
  | _, p => .unknownPortMessage p m

end Sys2Proof
end

