-- ==== Sys2Proof/Config.lean ====
section
/-! DEFINITION. The sizes the part fixes. None of them is programmable (R173: "The values do not vary with
mode, geometry or any setting"). -/

namespace Sys2Proof.Config

/-- Descriptors the Arrival Queue holds (R157). -/
def arrivalQueueSize : Nat := 8

/-- Records of the Piece Pool (R86). -/
def piecePoolSize : Nat := 256

/-- Entries of the Heat Table (R24). -/
def heatEntries : Nat := 1024

/-- Entries of the Range Table (R51). -/
def rangeEntries : Nat := 32

/-- Stream records of the Stream Detector (R26). -/
def streamRecords : Nat := 4

/-- Largest slot count, number of tags, heat entries and ranges, as IDENTIFY reports them (R173). -/
def maxSlots : Nat := 65536
def tags : Nat := 32

/-- The choices the spec leaves open inside one event, as an uninterpreted sequence: the k-th choice taken is a function
of `freeChoice k` (log entry 4). Nothing in the model knows a value of it. -/
opaque freeChoice : Nat → Nat

end Sys2Proof.Config
end

