-- ==== Sys2Proof/Machine/State.lean ====
section
/-! DEFINITION. The state of the part, block by block as the block overview of 00_scope lists it, and the state
after power-on. Everything is plain data. The fields marked MODEL are the model's own (INVENTORY.md). -/

namespace Sys2Proof.Machine

/-! ### Residency Map (chapter 1) -/

inductive SlotState where
  | free | resident | filling | flushing
  deriving DecidableEq, Repr

/-- One slot record (table of 1.2). -/
structure SlotRec where
  state : SlotState
  chunk : Option Nat
  valid : OffsetSet
  dirty : OffsetSet
  redirty : OffsetSet
  referenced : Bool
  pinned : Bool
  queued : Bool
  inflight : Nat
  deriving DecidableEq, Repr

/-- The one content of a FREE slot record (R2). -/
def SlotRec.free : SlotRec where
  state := .free
  chunk := none
  valid := 0#256
  dirty := 0#256
  redirty := 0#256
  referenced := false
  pinned := false
  queued := false
  inflight := 0

/-- Slot Table, Chunk Index, counts and geometry (R1, R3, R10). The index is kept in ascending chunk number. -/
structure ResidencyMap where
  slotCount : Nat
  diskSize : Nat
  slots : List SlotRec
  index : List (Nat × Nat)
  freeCount : Nat
  dirtyCount : Nat
  pinnedCount : Nat
  deriving DecidableEq, Repr

/-! ### Range Table and Pin Scanner (chapter 3) -/

inductive PlacementClass where
  | pin | bypass | boost | normal
  deriving DecidableEq, Repr

/-- A non-empty Range Table entry (R51); its class is PIN, BYPASS or BOOST. -/
structure RangeEntry where
  first : Nat
  last : Nat
  cls : PlacementClass
  deriving DecidableEq, Repr

/-- Whether the scanner is stalled, and whether the stall has set PIN_OVER (R61). -/
inductive Stall where
  | none
  | stalled (pinOverSet : Bool)
  deriving DecidableEq, Repr

/-- IDLE, or SCANNING with its cursor (R59) and stall (R61). -/
inductive Scanner where
  | idle
  | scanning (entry : Nat) (chunk : Nat) (stall : Stall)
  deriving DecidableEq, Repr

/-! ### Heat Unit and Stream Detector (chapter 2) -/

inductive HeatState where
  | tracked | candidate | promoted
  deriving DecidableEq, Repr

/-- A heat entry in use (R24). -/
structure HeatEntry where
  region : Nat
  score : Nat
  state : HeatState
  confirm : Nat
  touched : ChunkSet
  deriving DecidableEq, Repr

/-- Heat Table with its used and candidate counts, sweep pointer, tick timer and cold-victim register. -/
structure HeatUnit where
  entries : List (Option HeatEntry)
  usedCount : Nat
  candidateCount : Nat
  sweep : Nat
  tick : Option Nat
  victim : Option Nat
  deriving DecidableEq, Repr

/-- A non-empty stream record (R26). Empty records stand behind all others, so the detector is the list of its
non-empty records, most recent first. -/
structure StreamRec where
  next : Nat
  run : Nat
  deriving DecidableEq, Repr

/-- An access as the Router reports it (R29). -/
structure Access where
  region : Nat
  isWrite : Bool
  sectors : Nat
  positions : ChunkSet
  cls : PlacementClass
  deriving DecidableEq, Repr

/-! ### Job Arbiter and Mover (chapters 7 and 8) -/

inductive JobClass where
  | flushUrgent | pinFill | directed | hotFill | flushIdle
  deriving DecidableEq, Repr

/-- One value for each class. -/
structure PerClass (α : Type) where
  flushUrgent : α
  pinFill : α
  directed : α
  hotFill : α
  flushIdle : α
  deriving DecidableEq, Repr

inductive JobAction where
  | fill | flush | evict
  deriving DecidableEq, Repr

/-- What a queue entry names (R113). -/
inductive JobTarget where
  | chunk (c : Nat)
  | slot (i : Nat)
  deriving DecidableEq, Repr

structure Job where
  action : JobAction
  target : JobTarget
  deriving DecidableEq, Repr

inductive ServiceState where
  | pending | active | suspending | suspended
  deriving DecidableEq, Repr

/-- A class's in-service record (chapter 7): NONE, a job with its context, or AWAIT_ACK. -/
inductive Service where
  | none
  | job (st : ServiceState) (entry : Job) (ctx : CtxId)
  | awaitAck
  deriving DecidableEq, Repr

structure Arbiter where
  queues : PerClass (List Job)
  service : PerClass Service
  mask : BitVec 5
  lowest : JobClass
  deriving DecidableEq, Repr

/-- A run of consecutive offsets of a chunk. -/
structure Run where
  first : Nat
  count : Nat
  deriving DecidableEq, Repr

inductive Phase where
  | starting | diskRead | flashWrite | flashRead | diskWrite | evictCheck
  deriving DecidableEq, Repr

inductive AbortCause where
  | timeout | held
  deriving DecidableEq, Repr

inductive FailReason where
  | noSlot | busy | mediaError | aborted | flashUnavailable | diskUnavailable | timeout | held
  deriving DecidableEq, Repr

/-- A context that holds a job (table of 8.1). `staged` is the staging buffer (R130): the positions that hold the
job's data; the data itself crosses in no message of the spec (log entry 7). -/
structure Context where
  cls : JobClass
  action : JobAction
  chunk : Option Nat
  slot : Option Nat
  phase : Phase
  readSpan : Option (Nat × Nat)
  cursor : Nat
  snapshot : List Run
  runIndex : Nat
  piece : Option Nat
  poolWait : Bool
  abort : Option AbortCause
  watchdog : Option Nat
  usingDisk : Bool
  staged : OffsetSet
  deriving DecidableEq, Repr

/-- The failure record (R141). -/
structure FailureRecord where
  cls : JobClass
  action : JobAction
  chunk : Option Nat
  slot : Option Nat
  reason : FailReason
  lba : Option Nat
  phase : Phase
  deriving DecidableEq, Repr

structure Mover where
  ctx0 : Option Context
  ctx1 : Option Context
  failure : Option FailureRecord
  deriving DecidableEq, Repr

/-! ### Reclaimer (chapter 9) -/

structure Duties where
  evict : Bool
  forced : Bool
  idle : Bool
  deriving DecidableEq, Repr

inductive HandCondition where
  | moving | stopped | waiting | paused
  deriving DecidableEq, Repr

structure Reclaimer where
  duties : Duties
  hand : Nat
  condition : HandCondition
  noProgress : Nat
  idleRevolution : Nat
  idleFlushTimer : Option Nat
  deriving DecidableEq, Repr

/-! ### Pieces and ports (chapter 5) -/

/-- The block that takes a piece's completion (5.1). -/
inductive Owner where
  | command (tag : Nat)
  | context (c : CtxId)
  | orphan
  deriving DecidableEq, Repr

inductive PieceOp where
  | read | write | sync
  deriving DecidableEq, Repr

/-- A flash piece addresses a slot from a first offset, a disk piece a first LBA, a SYNC nothing (5.1). -/
inductive PieceTarget where
  | flash (slot : Nat) (first : Nat)
  | disk (lba : Nat)
  | none
  deriving DecidableEq, Repr

/-- Where the back-end moves a piece's data: the host buffer at a buffer position, a staging buffer, or nowhere. -/
inductive BufferRef where
  | host (ref : BitVec 64) (pos : Nat)
  | staging (c : CtxId) (pos : Nat)
  | none
  deriving DecidableEq, Repr

inductive PieceState where
  | waiting | sent | aborting
  deriving DecidableEq, Repr

/-- A piece record in use (5.1). Its port is the one whose list holds it. The timer's value is its limit in ms. -/
structure Piece where
  id : Nat
  owner : Owner
  op : PieceOp
  target : PieceTarget
  count : Nat
  buffer : BufferRef
  retryUsed : Bool
  state : PieceState
  timer : Option Nat
  deriving DecidableEq, Repr

/-- A message the part sends to a back-end (R180). -/
inductive PortMessage where
  | piece (p : Piece)
  | probe
  | abort (id : Nat)
  | start
  | stop
  deriving DecidableEq, Repr

inductive PortStatus where
  | probing | ready | faulted
  deriving DecidableEq, Repr

/-- One port: state, pieces in issue order, withheld records (R86), consecutive-timeout count, probe timer.
MODEL: `sent`, the messages sent since power-on, oldest first (log entry 5). -/
structure PortUnit where
  status : PortStatus
  list : List Piece
  withheld : List Nat
  timeouts : Nat
  probeTimer : Option Nat
  sent : List PortMessage
  deriving DecidableEq, Repr

/-! ### Spindle Control (chapter 6) -/

inductive SpindleState where
  | stopped | starting | running | stopping
  deriving DecidableEq, Repr

/-- Spindle Control's table. A timer's value is its limit in ms. -/
structure Spindle where
  state : SpindleState
  idleTimer : Option Nat
  startTimer : Option Nat
  retryTimer : Option Nat
  startFailed : Bool
  restartPending : Bool
  pendingSpinDown : Bool
  deriving DecidableEq, Repr

/-! ### Command Link and Command Table (chapters 10 and 4) -/

/-- The statuses a media command merges, in rising severity (R78). -/
inductive MediaStatus where
  | good | mediaError | flashUnavailable | diskUnavailable | aborted
  deriving DecidableEq, Repr

/-- Every status a completion record carries (R160). -/
inductive Status where
  | media (m : MediaStatus)
  | notReady | addressError | tagConflict | unknownOperation
  | notPermitted | badIndex | badRecord | order | duplicateChunk
  | queueFull | alreadyQueued | pinned | notResident
  deriving DecidableEq, Repr

/-- What a completion record's result holds (R178). `fields` are consecutive 8-byte fields, absent ones `none`. -/
inductive Result where
  | none
  | fields (values : List (Option Nat))
  | geometry (slotCount diskSize : Nat)
  | slotRecord (i : Nat) (r : SlotRec)
  | heatEntry (i : Nat) (e : Option HeatEntry) (victim : Bool)
  | rangeRecord (i : Nat) (e : Option RangeEntry)
  deriving DecidableEq, Repr

/-- A completion record (R162, R178). -/
structure Completion where
  tag : Nat
  status : Status
  errorLba : Option Nat
  result : Result
  deriving DecidableEq, Repr

/-- How far a SPIN DOWN that holds the head has come inside an event: still waiting, ended by a STOP or a failed
start, or ended by a HALT or a Disk Port fault (R109, log entry 11). Between events it is `waiting`. -/
inductive SpinDownPhase where
  | waiting | stopped | halted
  deriving DecidableEq, Repr

/-- The operations that take time (R161). -/
inductive HoldOp where
  | loadRange
  | spinUp
  | spinDown (phase : SpinDownPhase)
  | portRestart (p : Port)
  | enable
  deriving DecidableEq, Repr

structure HeadHold where
  tag : Nat
  op : HoldOp
  deriving DecidableEq, Repr

/-- Arrival Queue, head hold and flow control (10.1). MODEL: `sent`, the completion records sent since power-on,
oldest first (log entry 5). -/
structure Link where
  queue : List Descriptor
  headHold : Option HeadHold
  ready : Bool
  sent : List Completion
  deriving DecidableEq, Repr

/-- A Command Table record (table of 4.1). A management operation uses tag and kind. -/
structure CommandRec where
  tag : Nat
  kind : Operation
  lba : Nat
  count : Nat
  buffer : BitVec 64
  streaming : Bool
  cursor : Nat
  routingDone : Bool
  outstanding : Nat
  fallbackList : List (Nat × Nat)
  fallbackPieces : List Nat
  status : MediaStatus
  errorLba : Option Nat
  deriving DecidableEq, Repr

/-! ### Supervision (chapter 11) -/

inductive Mode where
  | loading | online | flashLost
  deriving DecidableEq, Repr

inductive CursorTable where
  | slots | heat | ranges
  deriving DecidableEq, Repr

structure Cursor where
  table : CursorTable
  index : Nat
  autoIncrement : Bool
  deriving DecidableEq, Repr

/-- Part mode, event flags with mask and notice line, crossing detectors, hold set, table-read cursor, and
whether an accepted ENABLE waits for the flash probe (R167). -/
structure Supervision where
  mode : Mode
  flags : BitVec 12
  mask : BitVec 12
  notice : Bool
  freeBelow : Bool
  freeReported : Bool
  dirtyAbove : Bool
  dirtyReported : Bool
  holds : BitVec 5
  cursor : Cursor
  enableWaiting : Bool
  deriving DecidableEq, Repr

inductive WriteMode where
  | around | absorbWhenStopped | absorbAlways
  deriving DecidableEq, Repr

inductive CandidateMode where
  | single | rollover
  deriving DecidableEq, Repr

inductive PriorityMode where
  | fixed | rotating
  deriving DecidableEq, Repr

inductive Pacing where
  | auto | ack
  deriving DecidableEq, Repr

/-- The parameter store (R172), as stored: codes and counts, not times. -/
structure Params where
  readWeight : Nat
  writeWeight : Nat
  tp : Nat
  td : Nat
  decayShift : Nat
  confirmDepth : Nat
  admitBar : Nat
  streamThreshold : Nat
  sweepCode : Nat
  candidateMode : CandidateMode
  markH : Nat
  markL : Nat
  markC : Nat
  markDh : Nat
  markDr : Nat
  pinLimit : Nat
  idleFlushDelay : Nat
  writeMode : WriteMode
  flashLimit : Nat
  diskLimit : Nat
  startLimit : Nat
  retryDelay : Nat
  idleDelay : Nat
  priority : PriorityMode
  pacing : PerClass Pacing
  watchdogCode : Nat
  deriving DecidableEq, Repr

/-! ### The machine -/

structure State where
  link : Link
  commands : List CommandRec
  routing : List Nat
  map : ResidencyMap
  ranges : List (Option RangeEntry)
  walk : Option Nat
  scanner : Scanner
  heat : HeatUnit
  streams : List StreamRec
  accesses : List Access
  arbiter : Arbiter
  mover : Mover
  reclaimer : Reclaimer
  flash : PortUnit
  disk : PortUnit
  spindle : Spindle
  sup : Supervision
  params : Params
  /-- MODEL: how many of the choices the spec leaves open have been taken; the next is `Config.freeChoice choice` (log
  entry 4). -/
  choice : Nat
  /-- MODEL: the commands waiting to be taken, first in, first out. -/
  pending : List Instr
  deriving DecidableEq, Repr

/-- Why the machine can stop with a fault. The spec names no condition that stops the part: port faults, failed
starts and failed jobs are effects on the state (R94, R103, R132). So there is no reason, and no step faults. -/
inductive Fault where
  deriving DecidableEq, Repr

/-- Why a command can have no meaning here. -/
inductive Refusal where
  /-- A command not modelled yet, by its mnemonic in the table. Raised by no arm of `exec`. Safe: it ends the run. -/
  | notModelled (mnemonic : String)
  deriving DecidableEq, Repr

/-! ### Power-on (R175) -/

/-- Every parameter at its reset value (2.7, R58, R72, R91, R107, R118, R125, R143, R146, R149). -/
def Params.reset : Params where
  readWeight := 4
  writeWeight := 2
  tp := 256
  td := 32
  decayShift := 3
  confirmDepth := 2
  admitBar := 16
  streamThreshold := 2048
  sweepCode := 9
  candidateMode := .rollover
  markH := 0
  markL := 0
  markC := 0
  markDh := 0
  markDr := 0
  pinLimit := 0
  idleFlushDelay := 20
  writeMode := .absorbWhenStopped
  flashLimit := 20
  diskLimit := 50
  startLimit := 20
  retryDelay := 5
  idleDelay := 8
  priority := .fixed
  pacing := ⟨.auto, .auto, .auto, .auto, .auto⟩
  watchdogCode := 100

/-- The map with no geometry (R1, R23). -/
def ResidencyMap.reset : ResidencyMap := ⟨0, 0, [], [], 0, 0, 0⟩

/-- A port at power-on: PROBING with its PROBE sent and the probe timer at its limit in ms (R95). -/
def PortUnit.reset (probeLimit : Nat) : PortUnit := ⟨.probing, [], [], 0, some probeLimit, [.probe]⟩

/-- The machine right after power-on (R175): each block in the state its chapter gives; both probes begun with
limits of 2 s and 10 s (R95); the sweep tick timer running with the 10 ms of sweep code 9 (R36). -/
def State.reset : State where
  link := ⟨[], none, true, []⟩
  commands := []
  routing := []
  map := .reset
  ranges := List.replicate Config.rangeEntries none
  walk := none
  scanner := .idle
  heat := ⟨List.replicate Config.heatEntries none, 0, 0, 0, some 10, none⟩
  streams := []
  accesses := []
  arbiter := ⟨⟨[], [], [], [], []⟩, ⟨.none, .none, .none, .none, .none⟩, 0#5, .flushIdle⟩
  mover := ⟨none, none, none⟩
  reclaimer := ⟨⟨false, false, false⟩, 0, .stopped, 0, 0, none⟩
  flash := .reset 2000
  disk := .reset 10000
  spindle := ⟨.stopped, none, none, none, false, false, false⟩
  sup := ⟨.loading, 0#12, 0#12, false, false, false, false, false, 0#5, ⟨.slots, 0, true⟩, false⟩
  params := .reset
  choice := 0
  pending := []

end Sys2Proof.Machine
end

