-- ==== Sys2Proof/Machine/Flags.lean ====
section
/-! DEFINITION. Supervision's event flags, notice line, hold set and crossing detectors (R155, R168, R174). -/

namespace Sys2Proof.Machine

inductive EventFlag where
  | freeCross | dirtyCross | candidateFull | jobDropped | jobFailed | ackWait | noEvictable | pinOver
  | mediaLoss | spinFail | portFault | haltNotice
  deriving DecidableEq, Repr

/-- Event flag bits 0 to 11 in the order of the flag table of 11.3, FREE_CROSS first (R179). -/
def EventFlag.bit : EventFlag → Nat
  | .freeCross => 0
  | .dirtyCross => 1
  | .candidateFull => 2
  | .jobDropped => 3
  | .jobFailed => 4
  | .ackWait => 5
  | .noEvictable => 6
  | .pinOver => 7
  | .mediaLoss => 8
  | .spinFail => 9
  | .portFault => 10
  | .haltNotice => 11

/-- The set of one flag. -/
def EventFlag.toSet (f : EventFlag) : BitVec 12 := BitVec.twoPow 12 f.bit

/-- The notice line is asserted while the mask enables a set flag (R168). -/
def noticeLine (flags mask : BitVec 12) : Bool := flags &&& mask != 0#12

/-- Store flags and mask and drive the notice line anew (R168). -/
def Supervision.drive (u : Supervision) (flags mask : BitVec 12) : Supervision :=
  { u with flags := flags, mask := mask, notice := noticeLine flags mask }

/-- A flag is set in the event of its cause, whether or not the mask enables it (R168). -/
def setFlag (f : EventFlag) (s : State) : State :=
  { s with sup := s.sup.drive (s.sup.flags ||| f.toSet) s.sup.mask }

/-- A block that HOLD BLOCKS can hold (R174). -/
inductive Block where
  | heat | pinScanner | reclaimer | mover | spindleAutoStop
  deriving DecidableEq, Repr

/-- Hold set bits (R179). -/
def Block.bit : Block → Nat
  | .heat => 0
  | .pinScanner => 1
  | .reclaimer => 2
  | .mover => 3
  | .spindleAutoStop => 4

/-- The block is in the hold set (R174). -/
def State.held (s : State) (b : Block) : Bool := s.sup.holds.getLsbD b.bit

/-- FREE's current side: BELOW while the free count is below L; NOT BELOW while S is 0 (R155). -/
def freeSide (s : State) : Bool := s.map.slotCount != 0 && s.map.freeCount < s.params.markL

/-- DIRTY's current side: ABOVE while the dirty count is at or above Dh; NOT ABOVE while S is 0 (R155). -/
def dirtySide (s : State) : Bool := s.map.slotCount != 0 && s.params.markDh ≤ s.map.dirtyCount

/-- Judge the FREE detector: a current side that changes and leaves the reported side sets FREE_CROSS (R155). -/
def judgeFree (s : State) : State :=
  if freeSide s = s.sup.freeBelow then s
  else
    let t : State := { s with sup := { s.sup with freeBelow := freeSide s } }
    if freeSide s = s.sup.freeReported then t else setFlag .freeCross t

/-- Judge the DIRTY detector, as `judgeFree` (R155). -/
def judgeDirty (s : State) : State :=
  if dirtySide s = s.sup.dirtyAbove then s
  else
    let t : State := { s with sup := { s.sup with dirtyAbove := dirtySide s } }
    if dirtySide s = s.sup.dirtyReported then t else setFlag .dirtyCross t

def judgeCrossings (s : State) : State := judgeDirty (judgeFree s)

end Sys2Proof.Machine
end

