-- ==== Sys2Proof/Machine/Sets.lean ====
section
/-! DEFINITION. Sets of offsets and their maximal runs (00_scope, "Sets of sector offsets" and "Run"). -/

namespace Sys2Proof.Machine

/-- The offsets `first` to `first + count − 1`. -/
def rangeSet (first count : Nat) : OffsetSet := BitVec.ofNat 256 ((2 ^ count - 1) * 2 ^ first)

/-- A set is full when it holds every offset. -/
def fullSet : OffsetSet := BitVec.allOnes 256

/-- `a` is contained in `b`. -/
def isSubset (a b : OffsetSet) : Bool := a &&& b == a

/-- A maximal run of offsets of one kind. -/
structure Segment (α : Type) where
  kind : α
  run : Run
  deriving DecidableEq, Repr

/-- The maximal runs of equal kind among the next `n` offsets from `o` on, ascending; `kind` gives the kind of an
offset, none for an offset that belongs to no run. -/
def segmentsFrom {α : Type} [DecidableEq α] (kind : Nat → Option α) : Nat → Nat → List (Segment α)
  | 0, _ => []
  | n + 1, o =>
    match kind o with
    | none => segmentsFrom kind n (o + 1)
    | some a =>
      match segmentsFrom kind n (o + 1) with
      | [] => [⟨a, ⟨o, 1⟩⟩]
      | seg :: rest =>
        if seg.kind = a ∧ seg.run.first = o + 1 then ⟨a, ⟨o, seg.run.count + 1⟩⟩ :: rest
        else ⟨a, ⟨o, 1⟩⟩ :: seg :: rest

/-- The maximal runs of a set, ascending. -/
def runs (b : OffsetSet) : List Run :=
  (segmentsFrom (fun o => if b.getLsbD o then some () else none) 256 0).map (·.run)

/-- The lowest offset of a set, if it has one. -/
def lowest (b : OffsetSet) : Option Nat := (runs b).head?.map (·.first)

/-- The highest offset of a set, if it has one. -/
def highest (b : OffsetSet) : Option Nat := (runs b).getLast?.map (fun r => r.first + r.count - 1)

/-- The members of a set of chunk positions, ascending. -/
def positionsOf (t : ChunkSet) : List Nat := (List.range 8).filter (fun p => t.getLsbD p)

end Sys2Proof.Machine
end

