-- ==== Sys2Proof/Machine/Ops.lean ====
section
/-! DEFINITION. The named operations that every block uses: the one write of a slot record (which keeps the
Chunk Index and the counts in step, R3, R10), completion records and Command Table records, Piece Pool records and
the ports' lists, contexts and per-class records. -/

namespace Sys2Proof.Machine

/-! ### Slot records -/

def SlotRec.isFree (r : SlotRec) : Bool := r.state == .free

/-- A slot is dirty when its dirty set is not empty; a FREE slot counts as clean (R2). -/
def SlotRec.isDirty (r : SlotRec) : Bool := r.state != .free && r.dirty != 0#256

/-- Counts toward the pinned count: non-FREE with the pinned flag set (R10). -/
def SlotRec.countsPinned (r : SlotRec) : Bool := r.state != .free && r.pinned

/-- Offsets leave the valid, dirty and redirty sets together (R4). -/
def SlotRec.drop (r : SlotRec) (o : OffsetSet) : SlotRec :=
  { r with valid := r.valid &&& ~~~o, dirty := r.dirty &&& ~~~o, redirty := r.redirty &&& ~~~o }

/-- Remove chunk `c` from the Chunk Index. -/
def indexRemove (c : Nat) : List (Nat × Nat) → List (Nat × Nat)
  | [] => []
  | e :: rest => if e.1 = c then rest else e :: indexRemove c rest

/-- Enter chunk `c` with slot `i` in the Chunk Index, keeping ascending chunk numbers. -/
def indexInsert (c i : Nat) : List (Nat × Nat) → List (Nat × Nat)
  | [] => [(c, i)]
  | e :: rest => if c < e.1 then (c, i) :: e :: rest else if c = e.1 then (c, i) :: rest else e :: indexInsert c i rest

/-- The Chunk Index after slot `i` goes from chunk `old` to chunk `new` (R3). -/
def reindex (index : List (Nat × Nat)) (i : Nat) (old new : Option Nat) : List (Nat × Nat) :=
  if old = new then index
  else
    let without := match old with
      | some c => indexRemove c index
      | none => index
    match new with
    | some c => indexInsert c i without
    | none => without

/-- A count after one slot's membership goes from `was` to `now` (R10). -/
def recount (count : Nat) (was now : Bool) : Nat := count + now.toNat - was.toNat

/-- Write slot `i`'s record, which was `old`: table, index and counts change in one step (R3, R10, R18). -/
def ResidencyMap.put (m : ResidencyMap) (i : Nat) (old new : SlotRec) : ResidencyMap :=
  { m with
    slots := m.slots.set i new
    index := reindex m.index i old.chunk new.chunk
    freeCount := recount m.freeCount old.isFree new.isFree
    dirtyCount := recount m.dirtyCount old.isDirty new.isDirty
    pinnedCount := recount m.pinnedCount old.countsPinned new.countsPinned }

/-- The slot that the Chunk Index gives for a chunk. -/
def ResidencyMap.slotOf (m : ResidencyMap) (c : Nat) : Option Nat :=
  (m.index.find? (fun e => e.1 == c)).map (·.2)

/-- The slot a chunk is bound to, with its record. -/
def ResidencyMap.bound (m : ResidencyMap) (c : Nat) : Option (Nat × SlotRec) :=
  match m.slotOf c with
  | some i => (m.slots[i]?).map (fun r => (i, r))
  | none => none

/-- The lowest-numbered FREE slot (R11). -/
def ResidencyMap.lowestFree (m : ResidencyMap) : Option Nat := m.slots.findIdx? (·.isFree)

/-- Slot `i`'s record; FREE content where there is no such slot. -/
def State.slot (s : State) (i : Nat) : SlotRec := (s.map.slots[i]?).getD .free

/-! ### The Reclaimer's hand -/

def Duties.any (d : Duties) : Bool := d.evict || d.forced || d.idle

/-- Whether a hand that nothing keeps may move: a duty is on, the part is ONLINE, Reclaimer is not held (R150). -/
def handMayMove (s : State) : Bool :=
  s.reclaimer.duties.any && s.sup.mode == .online && !s.held .reclaimer

/-- Release a WAITING or PAUSED hand: it moves, or is STOPPED where it may not move (R150, R152, R154). -/
def releaseHand (s : State) : State :=
  if s.reclaimer.condition = .waiting ∨ s.reclaimer.condition = .paused then
    { s with reclaimer := { s.reclaimer with condition := if handMayMove s then .moving else .stopped } }
  else s

/-- The slot changes that release the hand: for a WAITING hand, any change of its slot's record (R152); for a
PAUSED one, a change of state, referenced, pinned or queued, an inflight count falling to 0, or a valid set
becoming empty, in any slot (R154). -/
def wakesHand (c : HandCondition) (hand i : Nat) (old new : SlotRec) : Bool :=
  match c with
  | .waiting => i == hand && old != new
  | .paused =>
    old.state != new.state || old.referenced != new.referenced || old.pinned != new.pinned ||
      old.queued != new.queued || (old.inflight != 0 && new.inflight == 0) ||
      (old.valid != 0#256 && new.valid == 0#256)
  | .moving | .stopped => false

/-- The one write of a slot record: the map changes in one step and the Reclaimer's hand sees the change. -/
def putSlot (i : Nat) (r : SlotRec) (s : State) : State :=
  match s.map.slots[i]? with
  | none => s
  | some old =>
    let t : State := { s with map := s.map.put i old r }
    if wakesHand s.reclaimer.condition s.reclaimer.hand i old r then releaseHand t else t

/-- Change slot `i`'s record by `f`. -/
def modifySlot (i : Nat) (f : SlotRec → SlotRec) (s : State) : State := putSlot i (f (s.slot i)) s

/-! ### Completion records and the Command Table -/

/-- The part sends a completion record in the event that completes a descriptor (R162). -/
def sendCompletion (c : Completion) (s : State) : State :=
  { s with link := { s.link with sent := s.link.sent ++ [c] } }

def findCommand (t : Nat) (s : State) : Option CommandRec := s.commands.find? (fun r => r.tag == t)

def updateCommand (t : Nat) (f : CommandRec → CommandRec) (s : State) : State :=
  { s with commands := s.commands.map (fun r => if r.tag = t then f r else r) }

def freeRecord (t : Nat) (s : State) : State := { s with commands := s.commands.filter (fun r => r.tag != t) }

/-- Complete the descriptor that holds the record with tag `t`: the record is freed in the same event. -/
def answer (t : Nat) (st : Status) (lba : Option Nat) (res : Result) (s : State) : State :=
  sendCompletion ⟨t, st, lba, res⟩ (freeRecord t s)

/-- GOOD, the status of a descriptor completed without failure or refusal (R160). -/
def Status.good : Status := .media .good

/-- Complete a management operation GOOD with its result. -/
def answerGood (t : Nat) (res : Result) (s : State) : State := answer t .good none res s

/-- Refuse a management operation: "A refused descriptor carries no result except where its owning rule gives
one" (R160). -/
def refuse (t : Nat) (st : Status) (s : State) : State := answer t st none .none s

/-- A completed head hold ends in the completing event (R161). -/
def endHold (s : State) : State := { s with link := { s.link with headHold := none } }

/-- An accepted operation that takes time places a head hold (R161). -/
def placeHold (t : Nat) (op : HoldOp) (s : State) : State :=
  { s with link := { s.link with headHold := some ⟨t, op⟩ } }

/-! ### Contexts and classes -/

def State.ctx (s : State) : CtxId → Option Context
  | .ctx0 => s.mover.ctx0
  | .ctx1 => s.mover.ctx1

def setCtx (c : CtxId) (v : Option Context) (s : State) : State :=
  match c with
  | .ctx0 => { s with mover := { s.mover with ctx0 := v } }
  | .ctx1 => { s with mover := { s.mover with ctx1 := v } }

def modifyCtx (c : CtxId) (f : Context → Context) (s : State) : State := setCtx c ((s.ctx c).map f) s

def PerClass.get {α : Type} (p : PerClass α) : JobClass → α
  | .flushUrgent => p.flushUrgent
  | .pinFill => p.pinFill
  | .directed => p.directed
  | .hotFill => p.hotFill
  | .flushIdle => p.flushIdle

def PerClass.set {α : Type} (p : PerClass α) (k : JobClass) (v : α) : PerClass α :=
  match k with
  | .flushUrgent => { p with flushUrgent := v }
  | .pinFill => { p with pinFill := v }
  | .directed => { p with directed := v }
  | .hotFill => { p with hotFill := v }
  | .flushIdle => { p with flushIdle := v }

/-- The classes in the order of their numbers (7.1). -/
def allClasses : List JobClass := [.flushUrgent, .pinFill, .directed, .hotFill, .flushIdle]

/-- Class numbers 0 to 4 (7.1). -/
def JobClass.number : JobClass → Nat
  | .flushUrgent => 0
  | .pinFill => 1
  | .directed => 2
  | .hotFill => 3
  | .flushIdle => 4

/-- The class of a class encoding; none names no class. -/
def JobClass.ofNumber : Nat → Option JobClass
  | 0 => some .flushUrgent
  | 1 => some .pinFill
  | 2 => some .directed
  | 3 => some .hotFill
  | 4 => some .flushIdle
  | _ => none

def setService (k : JobClass) (v : Service) (s : State) : State :=
  { s with arbiter := { s.arbiter with service := s.arbiter.service.set k v } }

/-- Some Mover context is using the disk (R106). -/
def moverUsesDisk (s : State) : Bool :=
  (s.mover.ctx0.any (·.usingDisk)) || (s.mover.ctx1.any (·.usingDisk))

/-! ### Piece Pool and ports -/

def State.port (s : State) : Port → PortUnit
  | .flash => s.flash
  | .disk => s.disk

def setPort (p : Port) (u : PortUnit) (s : State) : State :=
  match p with
  | .flash => { s with flash := u }
  | .disk => { s with disk := u }

/-- Records in use on one port: its pieces and its withheld records (R86). -/
def PortUnit.recordIds (u : PortUnit) : List Nat := u.list.map (·.id) ++ u.withheld

/-- Piece Pool records in use (R86). -/
def poolInUse (s : State) : Nat := s.flash.recordIds.length + s.disk.recordIds.length

def freeRecords (s : State) : Nat := Config.piecePoolSize - poolInUse s

/-- The ids of the free records, ascending. -/
def freeIds (s : State) : List Nat :=
  (List.range Config.piecePoolSize).filter (fun i => !(s.flash.recordIds.contains i || s.disk.recordIds.contains i))

/-- One of `n` alternatives that the spec leaves open: the next free choice (log entry 4). -/
def chosen (n : Nat) (s : State) : Nat := Config.freeChoice s.choice % n

/-- A free choice has been taken. -/
def spendChoice (s : State) : State := { s with choice := s.choice + 1 }

/-- The free record a new piece takes; R86 does not say which (log entry 4). -/
def nextId (s : State) : Nat := (freeIds s)[chosen (freeIds s).length s]?.getD 0

/-- The piece limit in ms: code × 10 ms on the Flash Port, code × 100 ms on the Disk Port (R91). -/
def pieceLimit (s : State) : Port → Nat
  | .flash => s.params.flashLimit * 10
  | .disk => s.params.diskLimit * 100

/-- The port's sending condition (R87). -/
def maySend (p : Port) (s : State) : Bool :=
  match p with
  | .flash => s.flash.status == .ready
  | .disk => s.disk.status == .ready && s.spindle.state == .running

/-- Send every WAITING piece of the list, in list order, starting each piece timer (R87, R91). -/
def PortUnit.sendAll (u : PortUnit) (limit : Nat) : PortUnit :=
  { u with
    list := u.list.map (fun x => if x.state = .waiting then { x with state := .sent, timer := some limit } else x)
    sent := u.sent ++ (u.list.filter (fun x => x.state == .waiting)).map .piece }

def sendWaiting (p : Port) (s : State) : State :=
  if maySend p s then setPort p ((s.port p).sendAll (pieceLimit s p)) s else s

/-- A piece joins the end of its port's list in the event that makes it, and is sent if the port may send (R87). -/
def joinPort (p : Port) (x : Piece) (s : State) : State :=
  sendWaiting p (setPort p { s.port p with list := (s.port p).list ++ [x] } s)

/-- The port sends its back-end a message. -/
def sendMessage (p : Port) (m : PortMessage) (s : State) : State :=
  setPort p { s.port p with sent := (s.port p).sent ++ [m] } s

/-- How a piece ends: the back-end's four statuses (R90) and the two forced ones (R87, R94, R103). -/
inductive PieceStatus where
  | ok
  | mediaError (offset : Nat)
  | aborted
  | notReady
  | flashUnavailable
  | diskUnavailable
  deriving DecidableEq, Repr

/-- A port's forced status (R87, R94). -/
def forcedStatus : Port → PieceStatus
  | .flash => .flashUnavailable
  | .disk => .diskUnavailable

/-- Whether a piece issued now completes at once: at a FAULTED port (R87), and at the Disk Port while the retry-delay
timer runs (R104). -/
def forcedAtIssue (p : Port) (s : State) : Bool :=
  (s.port p).status == .faulted || (p == .disk && s.spindle.retryTimer.isSome)

/-! ### The sending of START and STOP -/

/-- Send START: STARTING, the start timer loaded, restart-pending cleared (R102, R105). -/
def sendStart (s : State) : State :=
  sendMessage .disk .start
    { s with spindle := { s.spindle with
        state := .starting, startTimer := some (s.params.startLimit * 1000), restartPending := false } }

/-- Send STOP: STOPPING, idle timer stopped, start timer loaded; a SPIN DOWN that was pending no longer is (R105). -/
def sendStop (s : State) : State :=
  sendMessage .disk .stop
    { s with spindle := { s.spindle with
        state := .stopping, startTimer := some (s.params.startLimit * 1000), idleTimer := none,
        pendingSpinDown := false } }

/-- Spindle Control's action on a disk need (R101). WAITING pieces of a STOPPED spindle whose retry-delay timer runs
have already completed, at issue or in the failed start (R103, R104). -/
def actOnNeed (s : State) : State :=
  match s.spindle.state with
  | .stopped => if s.disk.status = .ready ∧ s.spindle.retryTimer = none then sendStart s else s
  | .stopping => { s with spindle := { s.spindle with restartPending := true } }
  | .starting | .running => s

end Sys2Proof.Machine
end

