-- ==== Sys2Proof/Machine/Ranges.lean ====
section
/-! DEFINITION. The questions asked of the Range Table (R52) and the Pin Scanner's restart (R59). -/

namespace Sys2Proof.Machine

/-- The class of one LBA: that of the entry whose span contains it, or NORMAL (R52). -/
def classOf (ranges : List (Option RangeEntry)) (lba : Nat) : PlacementClass :=
  match ranges.findSome? (fun e => e.bind (fun r => if r.first ≤ lba ∧ lba ≤ r.last then some r.cls else none)) with
  | some c => c
  | none => .normal

/-- Some LBA from `lo` to `hi` lies in a range of class `k`. -/
def spanMeets (ranges : List (Option RangeEntry)) (k : PlacementClass) (lo hi : Nat) : Bool :=
  ranges.any (fun e => e.any (fun r => r.cls == k && r.first ≤ hi && lo ≤ r.last))

/-- Chunk `c` lies in a range of class `k`: at least one of its 256 sectors does (R8, R52). -/
def chunkIn (s : State) (k : PlacementClass) (c : Nat) : Bool := spanMeets s.ranges k (256 * c) (256 * c + 255)

/-- Region `g` is a BOOST region: at least one of its 2,048 sectors lies in a BOOST range (R40, R52). -/
def isBoostRegion (s : State) (g : Nat) : Bool := spanMeets s.ranges .boost (2048 * g) (2048 * g + 2047)

/-- The lowest-indexed PIN entry at index `i` or above, with its index. -/
def pinEntryFrom (s : State) (i : Nat) : Option (Nat × RangeEntry) :=
  ((s.ranges.zipIdx.drop i).findSome? (fun e =>
    e.1.bind (fun r => if r.cls = .pin then some (e.2, r) else none)))

/-- The Pin Scanner goes to IDLE with its cursor cleared (R54, R59, R63). -/
def idleScanner (s : State) : State := { s with scanner := .idle }

/-- A requested restart: in ONLINE and not held, SCANNING at the first chunk of the lowest PIN entry, or IDLE when
there is none; otherwise the scanner stays IDLE (R59). -/
def restartScanner (s : State) : State :=
  if s.sup.mode = .online ∧ s.held .pinScanner = false then
    match pinEntryFrom s 0 with
    | some (i, r) => { s with scanner := .scanning i (r.first / 256) .none }
    | none => idleScanner s
  else idleScanner s

/-- Jobs waiting in a class's queue. -/
def queueDepth (s : State) (k : JobClass) : Nat := (s.arbiter.queues.get k).length

/-- The pin-limit stall condition: pinned count plus waiting Pin-Fill jobs at or above P (R61). -/
def pinLimitHolds (s : State) : Bool := s.params.pinLimit ≤ s.map.pinnedCount + queueDepth s .pinFill

/-- The queue-full stall condition (R61). -/
def pinQueueFull (s : State) : Bool := 16 ≤ queueDepth s .pinFill

/-- A stall of the Pin Scanner is in force (R61). -/
def State.stalls (s : State) : Bool :=
  match s.scanner with
  | .scanning _ _ (.stalled _) => true
  | _ => false

/-- Look at a stall again: it ends at a change that makes both conditions false; a stall that goes on after the queue
has drained, with the pin-limit condition holding, sets PIN_OVER once (R61). -/
def judgeStall (s : State) : State :=
  match s.scanner with
  | .scanning e c (.stalled raised) =>
    if pinQueueFull s then s
    else if pinLimitHolds s then
      if raised then s else setFlag .pinOver { s with scanner := .scanning e c (.stalled true) }
    else { s with scanner := .scanning e c .none }
  | _ => s

/-- The cursor after chunk `c` of entry `e`: the entry's next chunk, or the first chunk of the next PIN entry at a
higher index, or the end of the scan (R62). -/
def scannerAfter (s : State) (e c : Nat) : Scanner :=
  let next : Scanner := match pinEntryFrom s (e + 1) with
    | some (i, r) => .scanning i (r.first / 256) .none
    | none => .idle
  match s.ranges[e]? with
  | some (some r) => if c < r.last / 256 then .scanning e (c + 1) .none else next
  | _ => next

end Sys2Proof.Machine
end

