-- ==== Sys2Proof/Machine/Arbiter.lean ====
section
/-! DEFINITION. The Job Arbiter: claims and duplicates (R114), postings (R115), priority (R117), eligibility and
the class the next grant serves (R120, R121), and the Pin Scanner's examination, which posts (R60 to R62). -/

namespace Sys2Proof.Machine

/-- Queue capacities (7.1). -/
def JobClass.capacity : JobClass → Nat
  | .flushUrgent => 32
  | .pinFill => 16
  | .directed => 8
  | .hotFill => 64
  | .flushIdle => 32

/-- The classes whose grants need the spindle RUNNING (7.1). -/
def JobClass.needsRunning : JobClass → Bool
  | .pinFill | .hotFill | .flushIdle => true
  | .flushUrgent | .directed => false

/-- The job a class has in service, if it has one. -/
def Service.entry : Service → Option Job
  | .job _ j _ => some j
  | .none | .awaitAck => Option.none

/-- Every queued or in-service job. -/
def allJobs (s : State) : List Job :=
  allClasses.flatMap (fun k => s.arbiter.queues.get k ++ (s.arbiter.service.get k).entry.toList)

/-- A chunk job (a fill) names chunk `c` (R114). -/
def chunkJobNames (s : State) (c : Nat) : Bool :=
  (allJobs s).any (fun j => j.action == .fill && j.target == .chunk c)

/-- Some job in any class names chunk `c` (R60). -/
def anyJobNames (s : State) (c : Nat) : Bool := (allJobs s).any (fun j => j.target == .chunk c)

/-- The chunk is bound to a slot whose queued flag is set. -/
def boundSlotQueued (s : State) (c : Nat) : Bool := (s.map.bound c).any (fun e => e.2.queued)

/-- Duplicate of a chunk posting for a fill (R114). -/
def duplicateFill (s : State) (c : Nat) : Bool := chunkJobNames s c || boundSlotQueued s c

/-- Duplicate of a slot posting for a flush (R114). -/
def duplicateFlush (s : State) (i : Nat) : Bool :=
  (s.slot i).queued || (s.slot i).chunk.any (chunkJobNames s)

/-- A posting is judged against the claims as they stand (R114). A Directed FLUSH or EVICT is judged as a chunk
posting and as a slot posting of the chunk's slot. -/
def isDuplicate (s : State) (j : Job) : Bool :=
  match j.target with
  | .slot i => duplicateFlush s i
  | .chunk c =>
    duplicateFill s c ||
      (j.action != .fill && (s.map.slotOf c).any (fun i => duplicateFlush s i))

/-- The slot whose queued flag a posting sets: a slot posting's slot, or the slot of a Directed FLUSH's or EVICT's
chunk (R9, R116). -/
def claimedSlot (s : State) (j : Job) : Option Nat :=
  match j.target with
  | .slot i => some i
  | .chunk c => if j.action = .fill then none else s.map.slotOf c

/-- The entry joins the end of its class's queue, and the queued flag of the slot it claims is set (R9, R115). -/
def enqueue (k : JobClass) (j : Job) (s : State) : State :=
  let t : State := { s with arbiter := { s.arbiter with
    queues := s.arbiter.queues.set k (s.arbiter.queues.get k ++ [j]) } }
  match claimedSlot s j with
  | some i => modifySlot i (fun r => { r with queued := true }) t
  | none => t

/-- The queue of the class holds its capacity. -/
def queueFull (s : State) (k : JobClass) : Bool := k.capacity ≤ queueDepth s k

/-- Whether an internal posting is accepted (R115). -/
def postAccepted (s : State) (k : JobClass) (j : Job) : Bool :=
  s.sup.mode != .loading && !isDuplicate s j && !queueFull s k

/-- A posting by the Heat Unit, the Pin Scanner or the Reclaimer: dropped silently in LOADING or as a duplicate, dropped
with JOB_DROPPED at a full queue, and otherwise queued (R115). -/
def post (k : JobClass) (j : Job) (s : State) : State :=
  if s.sup.mode = .loading then s
  else if isDuplicate s j then s
  else if queueFull s k then setFlag .jobDropped s
  else enqueue k j s

/-- The rank of a class, 0 the highest: (x − L − 1) mod 5 (R117). -/
def rank (lowest k : JobClass) : Nat := (k.number + 4 - lowest.number) % 5

/-- The classes by rising rank (R117). -/
def priorityOrder (lowest : JobClass) : List JobClass :=
  [0, 1, 2, 3, 4].filterMap (fun n => JobClass.ofNumber ((lowest.number + 1 + n) % 5))

/-- The free count is above the critical mark C, where the class's front job is a fill (R120). -/
def fillReserveKept (s : State) (k : JobClass) : Bool :=
  match (s.arbiter.queues.get k).head? with
  | some j => j.action != .fill || s.params.markC < s.map.freeCount
  | none => true

/-- Eligibility of a class (R120). Pin-Fill and Hot-Fill queues hold only fills, Flush queues none. -/
def eligible (s : State) (k : JobClass) : Bool :=
  !(s.arbiter.queues.get k).isEmpty &&
  !s.arbiter.mask.getLsbD k.number &&
  s.arbiter.service.get k == .none &&
  (!k.needsRunning || s.spindle.state == .running) &&
  fillReserveKept s k

/-- Contexts that jobs occupy (R121). -/
def occupiedContexts (s : State) : Nat := s.mover.ctx0.isSome.toNat + s.mover.ctx1.isSome.toNat

def Service.isNesting : Service → Bool
  | .job .suspending _ _ | .job .suspended _ _ => true
  | _ => false

/-- Some class is SUSPENDED or SUSPENDING (R121). -/
def nestingUnderway (s : State) : Bool := allClasses.any (fun k => (s.arbiter.service.get k).isNesting)

/-- The class outranks every class whose in-service record is not NONE (R121). -/
def outranksService (s : State) (k : JobClass) : Bool :=
  allClasses.all (fun x =>
    s.arbiter.service.get x == .none || rank s.arbiter.lowest k < rank s.arbiter.lowest x)

/-- The class that a grant taken now would serve, or none when a condition of R121 fails. -/
def nextGrant (s : State) : Option JobClass :=
  if s.sup.mode = .online ∧ s.held .mover = false ∧ occupiedContexts s < 2 ∧ nestingUnderway s = false then
    match (priorityOrder s.arbiter.lowest).find? (eligible s) with
    | some k => if outranksService s k then some k else none
    | none => none
  else none

/-! ### The Pin Scanner's examination -/

/-- The chunk needs no Pin-Fill posting (R60). -/
def pinPassesOver (s : State) (c : Nat) : Bool :=
  (s.map.bound c).any (fun e => e.2.valid == fullSet) || chunkIn s .bypass c || anyJobNames s c || boundSlotQueued s c

/-- The scanner stalls at its chunk; PIN_OVER is set if the pin-limit condition holds (R61). -/
def stallScanner (e c : Nat) (s : State) : State :=
  let t : State := { s with scanner := .scanning e c (.stalled (pinLimitHolds s)) }
  if pinLimitHolds s then setFlag .pinOver t else t

/-- The Pin Scanner examines the chunk at its cursor (R60 to R62). -/
def scanChunk (s : State) : State :=
  match s.scanner with
  | .scanning e c .none =>
    if pinPassesOver s c then { s with scanner := scannerAfter s e c }
    else if pinLimitHolds s || pinQueueFull s then stallScanner e c s
    else { post .pinFill ⟨.fill, .chunk c⟩ s with scanner := scannerAfter s e c }
  | _ => s

/-- The stall looked at within a Pin-Fill's grant: one that the entry's leaving ends is followed by the examination of
its chunk afresh before the fill binds its slot, as the worked sequence 3.8 has it (R61, log entry 9). No other event
examines a chunk but the scanner's own (R60). -/
def resumeScan (s : State) : State := if s.stalls then scanChunk (judgeStall s) else s

end Sys2Proof.Machine
end

