-- ==== Sys2Proof/Machine/Records.lean ====
section
/-! DEFINITION. Encodings of what the part reports and sends: enumerations (R179), completion and read-back records
(R178), port messages (R180). -/

namespace Sys2Proof.Machine

/-! ### Enumerations (R178, R179) -/

def MediaStatus.code : MediaStatus → Nat
  | .good => 0
  | .mediaError => 1
  | .flashUnavailable => 2
  | .diskUnavailable => 3
  | .aborted => 4

def Status.code : Status → Nat
  | .media m => m.code
  | .notReady => 5
  | .addressError => 6
  | .tagConflict => 7
  | .unknownOperation => 8
  | .notPermitted => 16
  | .badIndex => 17
  | .badRecord => 18
  | .order => 19
  | .duplicateChunk => 20
  | .queueFull => 21
  | .alreadyQueued => 22
  | .pinned => 23
  | .notResident => 24

def SlotState.code : SlotState → Nat
  | .free => 0
  | .resident => 1
  | .filling => 2
  | .flushing => 3

def HeatState.code : HeatState → Nat
  | .tracked => 0
  | .candidate => 1
  | .promoted => 2

/-- Range classes: 1 PIN, 2 BYPASS, 3 BOOST (R178). -/
def PlacementClass.code : PlacementClass → Nat
  | .pin => 1
  | .bypass => 2
  | .boost => 3
  | .normal => 0

/-- The class a range record's encoding names, if any (R53, R178). -/
def PlacementClass.ofCode : Nat → Option PlacementClass
  | 1 => some .pin
  | 2 => some .bypass
  | 3 => some .boost
  | _ => none

def JobAction.code : JobAction → Nat
  | .fill => 1
  | .flush => 2
  | .evict => 3

def JobAction.ofCode : Nat → Option JobAction
  | 1 => some .fill
  | 2 => some .flush
  | 3 => some .evict
  | _ => none

def Mode.code : Mode → Nat
  | .loading => 0
  | .online => 1
  | .flashLost => 2

def PortStatus.code : PortStatus → Nat
  | .probing => 0
  | .ready => 1
  | .faulted => 2

def SpindleState.code : SpindleState → Nat
  | .stopped => 0
  | .starting => 1
  | .running => 2
  | .stopping => 3

def Service.code : Service → Nat
  | .none => 0
  | .job .pending _ _ => 1
  | .job .active _ _ => 2
  | .job .suspending _ _ => 3
  | .job .suspended _ _ => 4
  | .awaitAck => 5

def Phase.code : Phase → Nat
  | .starting => 0
  | .diskRead => 1
  | .flashWrite => 2
  | .flashRead => 3
  | .diskWrite => 4
  | .evictCheck => 5

def FailReason.code : FailReason → Nat
  | .noSlot => 1
  | .busy => 2
  | .mediaError => 3
  | .aborted => 4
  | .flashUnavailable => 5
  | .diskUnavailable => 6
  | .timeout => 7
  | .held => 8

def abortCode : Option AbortCause → Nat
  | none => 0
  | some .timeout => 1
  | some .held => 2

def PieceState.code : PieceState → Nat
  | .waiting => 0
  | .sent => 1
  | .aborting => 2

def ctxNumber : CtxId → Nat
  | .ctx0 => 0
  | .ctx1 => 1

def CursorTable.code : CursorTable → Nat
  | .slots => 0
  | .heat => 1
  | .ranges => 2

def CursorTable.ofCode : Nat → Option CursorTable
  | 0 => some .slots
  | 1 => some .heat
  | 2 => some .ranges
  | _ => none

def WriteMode.code : WriteMode → Nat
  | .around => 0
  | .absorbWhenStopped => 1
  | .absorbAlways => 2

def CandidateMode.code : CandidateMode → Nat
  | .single => 0
  | .rollover => 1

def PriorityMode.code : PriorityMode → Nat
  | .fixed => 0
  | .rotating => 1

def Pacing.code : Pacing → Nat
  | .auto => 0
  | .ack => 1

/-- Flags and yes-or-no items: 0 clear or no, 1 set or yes (R179). -/
def flagField (b : Bool) : Option Nat := some b.toNat

/-! ### Reports (R127, R142, R170), each item one field in the row order of its rule's table (R178) -/

/-- READ STATUS's report (R170). The Command Table count includes READ STATUS's own record (log entry 15). -/
def statusReport (s : State) : Result :=
  .fields [
    some s.sup.mode.code,
    some s.flash.status.code, some s.disk.status.code,
    some s.spindle.state.code, flagField s.spindle.startFailed, flagField s.spindle.restartPending,
    flagField s.spindle.retryTimer.isSome, flagField s.spindle.pendingSpinDown,
    some s.map.freeCount, some s.map.dirtyCount, some s.map.pinnedCount,
    some s.heat.candidateCount, some s.heat.usedCount,
    flagField s.sup.freeBelow, flagField s.sup.dirtyAbove,
    some s.params.markH, some s.params.markL, some s.params.markC, some s.params.markDh, some s.params.markDr,
    some s.params.pinLimit, some s.params.tp, some s.params.td,
    some s.sup.holds.toNat, some s.commands.length, some (poolInUse s)]

/-- The chunk or slot a target names, as one item (log entry 16). -/
def JobTarget.named : JobTarget → Nat
  | .chunk c => c
  | .slot i => i

/-- POLL ARBITER's per-class row (R127). -/
def classReport (s : State) (k : JobClass) : List (Option Nat) :=
  [some (queueDepth s k), flagField (!(s.arbiter.queues.get k).isEmpty), flagField (eligible s k),
   some (s.arbiter.service.get k).code, some (s.params.pacing.get k).code] ++
  match s.arbiter.service.get k with
  | .job _ j c => [some j.target.named, some (ctxNumber c)]
  | .none | .awaitAck => [none, none]

/-- POLL ARBITER's result (R127). -/
def arbiterReport (s : State) : Result :=
  .fields ((nextGrant s).map (·.number) :: allClasses.flatMap (classReport s) ++
    [some s.arbiter.mask.toNat, some s.arbiter.lowest.number, some s.params.priority.code])

/-- The state at its port of the piece with an id. -/
def pieceStateOf (s : State) (id : Nat) : Option PieceState :=
  ((s.flash.list ++ s.disk.list).find? (fun x => x.id == id)).map (·.state)

/-- READ JOB STATUS's per-context row (R142); what does not apply is absent (R178). The run index counts from 0, and the
write cursor, the run index and the number of runs of a job that has not started are 0 (log entry 16). -/
def contextReport (s : State) (c : CtxId) : List (Option Nat) :=
  match s.ctx c with
  | none => some 0 :: List.replicate 17 none
  | some x =>
    let fill := x.action == .fill
    [some 1, some x.cls.number, some x.action.code, x.chunk, x.slot,
     some (s.arbiter.service.get x.cls).code, some x.phase.code,
     if fill then x.readSpan.map (·.1) else none, if fill then x.readSpan.map (·.2) else none,
     if fill then some x.cursor else none,
     if fill then none else some x.runIndex, if fill then none else some x.snapshot.length,
     x.piece, x.piece.bind (fun id => (pieceStateOf s id).map (·.code)),
     flagField x.poolWait, some (abortCode x.abort), flagField x.usingDisk, flagField x.watchdog.isSome]

/-- The failure record's seven fields, all absent when it is empty (R141, R178). -/
def failureReport : Option FailureRecord → List (Option Nat)
  | none => List.replicate 7 none
  | some f => [some f.cls.number, some f.action.code, f.chunk, f.slot, some f.reason.code, f.lba, some f.phase.code]

/-- READ JOB STATUS's result (R142). -/
def jobReport (s : State) : Result :=
  .fields (contextReport s .ctx0 ++ contextReport s .ctx1 ++ failureReport s.mover.failure)

/-- IDENTIFY's result: "Vendor code 11; part code 4; revision 1; then 65,536, 32, 1,024, 32" (R173, R179). -/
def identity : Result :=
  .fields [some 11, some 4, some 1, some Config.maxSlots, some Config.tags, some Config.heatEntries,
    some Config.rangeEntries]

/-! ### Byte layouts -/

/-- `n` bytes of a number, least significant first (R176). -/
def leBytes (n v : Nat) : List Byte := (List.range n).map (fun i => BitVec.ofNat 8 (v / 256 ^ i))

/-- An 8-byte field; an absent value is all ones (R178). -/
def fieldBytes : Option Nat → List Byte
  | some v => leBytes 8 v
  | none => List.replicate 8 0xff#8

/-- An offset set is 32 bytes, bit b of byte i standing for offset 8i + b (R176). -/
def setBytes (o : OffsetSet) : List Byte := leBytes 32 o.toNat

/-- The 108-byte slot record (R178). The chunk field of a slot with no chunk is all ones, as R178 has an absent value
written (log entry 16). -/
def slotRecordBytes (i : Nat) (r : SlotRec) : List Byte :=
  leBytes 2 i ++ leBytes 1 r.state.code ++
  leBytes 1 (r.chunk.isSome.toNat + 2 * r.referenced.toNat + 4 * r.pinned.toNat + 8 * r.queued.toNat) ++
  leBytes 2 r.inflight ++ leBytes 2 0 ++ (r.chunk.map (leBytes 4)).getD (List.replicate 4 0xff#8) ++
  setBytes r.valid ++ setBytes r.dirty ++ setBytes r.redirty

/-- The 16-byte heat entry; an unused entry has its other fields zero (R48, R178). -/
def heatEntryBytes (i : Nat) (e : Option HeatEntry) (victim : Bool) : List Byte :=
  match e with
  | none => leBytes 2 i ++ leBytes 14 0
  | some h =>
    leBytes 2 i ++ leBytes 1 (1 + 2 * victim.toNat) ++ leBytes 1 h.state.code ++ leBytes 1 h.confirm ++
    leBytes 1 h.touched.toNat ++ leBytes 2 0 ++ leBytes 4 h.region ++ leBytes 2 h.score ++ leBytes 2 0

/-- The 16-byte range record; an empty entry has its other fields zero (R51, R178). -/
def rangeRecordBytes (i : Nat) (e : Option RangeEntry) : List Byte :=
  match e with
  | none => leBytes 1 i ++ leBytes 15 0
  | some r => leBytes 1 i ++ leBytes 1 1 ++ leBytes 1 r.cls.code ++ leBytes 1 0 ++ leBytes 6 r.first ++ leBytes 6 r.last

/-- A result's bytes (R178). SET GEOMETRY's result is 16 bytes long (log entry 16). -/
def Result.bytes : Result → List Byte
  | .none => []
  | .fields vs => vs.flatMap fieldBytes
  | .geometry n d => leBytes 4 n ++ leBytes 4 0 ++ leBytes 6 d ++ leBytes 2 0
  | .slotRecord i r => slotRecordBytes i r
  | .heatEntry i e v => heatEntryBytes i e v
  | .rangeRecord i e => rangeRecordBytes i e

/-- A completion record: 16-byte header and result (R178). -/
def Completion.bytes (c : Completion) : List Byte :=
  leBytes 1 c.status.code ++ leBytes 1 c.tag ++ leBytes 1 c.errorLba.isSome.toNat ++ leBytes 1 0 ++
  leBytes 6 (c.errorLba.getD 0) ++ leBytes 2 c.result.bytes.length ++ leBytes 4 0 ++ c.result.bytes

def PieceOp.code : PieceOp → Nat
  | .read => 0
  | .write => 1
  | .sync => 2

/-- Buffer byte, buffer position and host buffer reference of a PIECE message (R180). -/
def BufferRef.codes : BufferRef → Nat × Nat × Nat
  | .host ref pos => (0, pos, ref.toNat)
  | .staging .ctx0 pos => (1, pos, 0)
  | .staging .ctx1 pos => (2, pos, 0)
  | .none => (255, 0, 0)

/-- The 24 bytes of a message to a back-end; "zeroes in all other bytes" (R180, R181). -/
def PortMessage.bytes : PortMessage → List Byte
  | .probe => leBytes 24 2
  | .start => leBytes 24 4
  | .stop => leBytes 24 5
  | .abort id => leBytes 1 3 ++ leBytes 1 id ++ leBytes 22 0
  | .piece p =>
    leBytes 1 1 ++ leBytes 1 p.id ++ leBytes 1 p.op.code ++ leBytes 1 p.buffer.codes.1 ++ leBytes 2 p.count ++
    (match p.target with
      | .disk lba => leBytes 6 lba
      | .flash slot first => leBytes 2 slot ++ leBytes 1 first ++ leBytes 3 0
      | .none => leBytes 6 0) ++
    leBytes 2 p.buffer.codes.2.1 ++ leBytes 2 0 ++ leBytes 8 p.buffer.codes.2.2

end Sys2Proof.Machine
end

