-- ==== Sys2Proof/Machine/Heat.lean ====
section
/-! DEFINITION. The Stream Detector and the Heat Unit (chapter 2). -/

namespace Sys2Proof.Machine

/-! ### The Stream Detector (R26 to R28) -/

/-- The run length after a command of `count` sectors at `lba`: the matched record's plus the count, or the count,
saturating at 65,535 (R27). -/
def streamRun (streams : List StreamRec) (lba count : Nat) : Nat :=
  match streams.find? (fun r => r.next == lba) with
  | some r => min 65535 (r.run + count)
  | none => min 65535 count

/-- The records after the update: a matched record moves to the front, otherwise the last of the four is replaced; any
other record with the same next LBA as the updated one is emptied (R27). -/
def streamUpdate (streams : List StreamRec) (lba count : Nat) : List StreamRec :=
  let kept :=
    if (streams.find? (fun r => r.next == lba)).isSome then streams.eraseP (fun r => r.next == lba)
    else streams.take (Config.streamRecords - 1)
  ⟨lba + count, streamRun streams lba count⟩ :: kept.filter (fun r => r.next != lba + count)

/-- The streaming flag a command gets (R28). -/
def streamingFlag (s : State) (lba count : Nat) : Bool :=
  !s.held .heat && s.params.streamThreshold ≤ streamRun s.streams lba count

/-- The detector's update when a READ or WRITE is taken and Heat is not held (R27). -/
def detectStream (lba count : Nat) (s : State) : State :=
  if s.held .heat then s else { s with streams := streamUpdate s.streams lba count }

/-! ### The Heat Table -/

def HeatEntry.isCandidate (e : HeatEntry) : Bool := e.state == .candidate

/-- Write the entry at index `i`; the used and candidate counts change in the same step (R24, R25). -/
def HeatUnit.put (h : HeatUnit) (i : Nat) (e : Option HeatEntry) : HeatUnit :=
  let old := (h.entries[i]?).join
  { h with
    entries := h.entries.set i e
    usedCount := recount h.usedCount old.isSome e.isSome
    candidateCount := recount h.candidateCount (old.any (·.isCandidate)) (e.any (·.isCandidate)) }

def putHeat (i : Nat) (e : Option HeatEntry) (s : State) : State := { s with heat := s.heat.put i e }

def setVictim (v : Option Nat) (s : State) : State := { s with heat := { s.heat with victim := v } }

/-- The entry at index `i`, if it is in use. -/
def State.heatEntry (s : State) (i : Nat) : Option HeatEntry := (s.heat.entries[i]?).join

/-- The index of a region's entry. -/
def heatIndexOf (s : State) (region : Nat) : Option Nat :=
  s.heat.entries.findIdx? (fun e => e.any (fun h => h.region == region))

/-- The lowest-indexed unused entry (R32). -/
def lowestUnused (s : State) : Option Nat := s.heat.entries.findIdx? (·.isNone)

/-- The candidate limit of the mode in force (R25). -/
def candidateLimit (s : State) : Nat :=
  match s.params.candidateMode with
  | .single => 1
  | .rollover => 8

/-- The tick period in ms of a sweep code (R36). -/
def tickPeriod (c : Nat) : Nat := if c ≤ 127 then c + 1 else (c - 126) * 128

/-! ### Hot-Fill postings (R34, R40) -/

/-- A chunk is excluded when it is fully valid in its slot, or lies in a PIN or a BYPASS range (R34). -/
def needsHotFill (s : State) (c : Nat) : Bool :=
  !((s.map.bound c).any (fun e => e.2.valid == fullSet)) && !chunkIn s .pin c && !chunkIn s .bypass c

/-- Post a Hot-Fill for chunk `c` if it needs one. -/
def postHotFill (c : Nat) (s : State) : State :=
  if needsHotFill s c then post .hotFill ⟨.fill, .chunk c⟩ s else s

/-- Post Hot-Fills for chunk positions of a region, in ascending position (R34, R40). -/
def postHotFills (region : Nat) (positions : ChunkSet) (s : State) : State :=
  (positionsOf positions).foldl (fun t p => postHotFill (8 * region + p) t) s

/-! ### Accesses (R29 to R34) -/

/-- units = min(8, ⌈n / 32⌉) (R30). -/
def accessUnits (n : Nat) : Nat := min 8 ((n + 31) / 32)

/-- The increment of an access (R30). -/
def increment (p : Params) (a : Access) : Nat :=
  let weighted := (if a.isWrite then p.writeWeight else p.readWeight) * accessUnits a.sectors
  match a.cls with
  | .normal => weighted
  | .boost => 2 * weighted
  | .pin | .bypass => 0

/-- Whether an access's class lets it touch and score an entry (R30, R31). -/
def PlacementClass.scores : PlacementClass → Bool
  | .normal | .boost => true
  | .pin | .bypass => false

/-- An access to an entry in use (R31): the score rises, saturating, and the touched set grows. -/
def HeatEntry.touch (e : HeatEntry) (p : Params) (a : Access) : HeatEntry :=
  if a.cls.scores then
    { e with score := min 65535 (e.score + increment p a), touched := e.touched ||| a.positions }
  else e

/-- The entry that a scored access to a new region makes (R32). -/
def newHeatEntry (p : Params) (a : Access) : HeatEntry := ⟨a.region, increment p a, .tracked, 0, a.positions⟩

/-- The cold-victim register's consultation for a new region in a full table (R33). -/
def overwriteVictim (a : Access) (s : State) : State :=
  match s.heat.victim with
  | none => s
  | some i =>
    match s.heatEntry i with
    | some e =>
      if e.state = .tracked ∧ e.score < s.params.admitBar then
        setVictim none (putHeat i (some (newHeatEntry s.params a)) s)
      else setVictim none s
    | none => setVictim none s

/-- The Heat Unit takes an access, whole (R31 to R34). -/
def takeAccess (a : Access) (s : State) : State :=
  match heatIndexOf s a.region with
  | some i =>
    match s.heatEntry i with
    | some e =>
      let t := putHeat i (some (e.touch s.params a)) s
      if e.state = .promoted ∧ a.cls.scores then postHotFills a.region a.positions t else t
    | none => s
  | none =>
    if increment s.params a = 0 then s
    else
      match lowestUnused s with
      | some i => putHeat i (some (newHeatEntry s.params a)) s
      | none => overwriteVictim a s

/-! ### The sweep (R36 to R43) -/

/-- Decay: d = ⌊score / 2^k⌋, at least 1 for a score above 0 (R37). -/
def decayed (k score : Nat) : Nat :=
  if score / 2 ^ k = 0 ∧ 0 < score then score - 1 else score - score / 2 ^ k

/-- Clear the referenced flag of the slot chunk `c` is bound to; an unbound chunk is passed over (R42). -/
def hintChunk (c : Nat) (s : State) : State :=
  match s.map.slotOf c with
  | some i => modifySlot i (fun r => { r with referenced := false }) s
  | none => s

/-- The demotion hint for a region's touched chunks (R38, R42). -/
def demotionHint (region : Nat) (touched : ChunkSet) (s : State) : State :=
  (positionsOf touched).foldl (fun t p => hintChunk (8 * region + p) t) s

/-- The confirm depth for a region: 1 for a BOOST region (R40). -/
def confirmDepthOf (s : State) (region : Nat) : Nat := if isBoostRegion s region then 1 else s.params.confirmDepth

/-- Candidacy, confirmation and return to TRACKED for an entry whose score has decayed and is not 0 (R39 to R41):
the entry, whether it was promoted at this visit, and whether candidacy was refused at the limit. -/
def judgeEntry (s : State) (e : HeatEntry) : HeatEntry × Bool × Bool :=
  match e.state with
  | .tracked =>
    if s.params.tp ≤ e.score then
      if s.heat.candidateCount < candidateLimit s then ({ e with state := .candidate, confirm := 0 }, false, false)
      else (e, false, true)
    else (e, false, false)
  | .candidate =>
    if s.params.tp ≤ e.score then
      if confirmDepthOf s e.region ≤ e.confirm + 1 then ({ e with state := .promoted, confirm := 0 }, true, false)
      else ({ e with confirm := e.confirm + 1 }, false, false)
    else ({ e with state := .tracked, confirm := 0 }, false, false)
  | .promoted =>
    if e.score < s.params.td then ({ e with state := .tracked }, false, false) else (e, false, false)

/-- The last step of a visit: a TRACKED entry becomes the victim if the register is invalid or names an entry with a
higher score (R43). -/
def updateVictim (i : Nat) (e : HeatEntry) (s : State) : State :=
  if e.state = .tracked then
    match s.heat.victim with
    | none => setVictim (some i) s
    | some j =>
      if (s.heatEntry j).any (fun v => e.score < v.score) then setVictim (some i) s else s
  else s

/-- A visit of the entry in use at index `i` (R37 to R43). -/
def visitEntry (i : Nat) (e : HeatEntry) (s : State) : State :=
  let score := decayed s.params.decayShift e.score
  if score = 0 then
    let t := putHeat i none (demotionHint e.region e.touched s)
    if s.heat.victim = some i then setVictim none t else t
  else
    let j := judgeEntry s { e with score := score }
    let stored := putHeat i (some j.1) s
    let flagged := if j.2.2 then setFlag .candidateFull stored else stored
    let posted := if j.2.1 ∧ s.sup.mode = .online then postHotFills e.region e.touched flagged else flagged
    let hinted :=
      if j.1.state = .tracked ∧ j.1.score < s.params.td then demotionHint e.region e.touched posted else posted
    updateVictim i j.1 hinted

/-- A sweep visit: the entry at the pointer, then the pointer advances and the timer restarts (R36). -/
def sweep (s : State) : State :=
  let i := s.heat.sweep
  let t := match s.heatEntry i with
    | some e => visitEntry i e s
    | none => s
  { t with heat := { t.heat with
    sweep := if i + 1 < Config.heatEntries then i + 1 else 0, tick := some (tickPeriod s.params.sweepCode) } }

/-! ### Candidate mode, CLEAR HEAT and the Heat hold (R44, R45, R49) -/

/-- Keep the first CANDIDATE entry and return every other one to TRACKED (R44). -/
def keepFirstCandidate : List (Option HeatEntry) → Bool → List (Option HeatEntry)
  | [], _ => []
  | none :: rest, found => none :: keepFirstCandidate rest found
  | some e :: rest, found =>
    if e.state = .candidate then
      (if found then some { e with state := .tracked, confirm := 0 } else some e) :: keepFirstCandidate rest true
    else some e :: keepFirstCandidate rest found

/-- The change from ROLLOVER to SINGLE (R44). -/
def singleCandidate (s : State) : State :=
  { s with heat := { s.heat with
    entries := keepFirstCandidate s.heat.entries false, candidateCount := min 1 s.heat.candidateCount } }

/-- CLEAR HEAT EMPTY (R45). -/
def clearHeat (s : State) : State :=
  { s with heat := { s.heat with
    entries := List.replicate Config.heatEntries none, usedCount := 0, candidateCount := 0, victim := none } }

/-- CLEAR HEAT LEVEL v (R45). -/
def levelHeat (v : Nat) (s : State) : State :=
  { s with heat := { s.heat with
    entries := s.heat.entries.map (fun e => e.map (fun h =>
      { h with score := min v 65535, state := .tracked, confirm := 0 }))
    candidateCount := 0 } }

/-- Heat enters the hold set (R49). Accesses in transit find the unit held and are lost (log entry 6). -/
def holdHeat (s : State) : State :=
  let t := clearHeat s
  { t with streams := [], accesses := [], heat := { t.heat with sweep := 0, tick := none } }

/-- Heat leaves the hold set: the tick timer starts with a full period (R49). -/
def releaseHeat (s : State) : State :=
  { s with heat := { s.heat with tick := some (tickPeriod s.params.sweepCode) } }

end Sys2Proof.Machine
end

