-- ==== Sys2Proof/Machine/Router.lean ====
section
/-! DEFINITION. The Router and the Command Table: merging (R77, R78), command completion (R79), host piece
completions with fallback and failed writes (R80 to R83, R85), the routing of portions (R67 to R76, R84). -/

namespace Sys2Proof.Machine

/-! ### Merging and completion -/

/-- Severity GOOD < MEDIA_ERROR < FLASH_UNAVAILABLE < DISK_UNAVAILABLE < ABORTED (R78). -/
def MediaStatus.worse (a b : MediaStatus) : MediaStatus := if a.code ≤ b.code then b else a

/-- The lower of two error LBAs, an absent one being none merged yet (R78). -/
def lowerLba : Option Nat → Option Nat → Option Nat
  | some a, some b => some (min a b)
  | some a, none => some a
  | none, b => b

/-- Merge a status and a failing LBA into a command (R78). -/
def CommandRec.merge (r : CommandRec) (st : MediaStatus) (lba : Option Nat) : CommandRec :=
  { r with status := r.status.worse st, errorLba := lowerLba r.errorLba lba }

/-- The three conditions of R79. -/
def CommandRec.isDone (r : CommandRec) : Bool := r.routingDone && r.outstanding == 0 && r.fallbackList.isEmpty

/-- Complete the command with tag `t` in the event that makes the last condition true (R79). -/
def completeIfDone (t : Nat) (s : State) : State :=
  match findCommand t s with
  | some r => if r.isDone then answer t (.media r.status) r.errorLba .none s else s
  | none => s

/-- A piece's first LBA: the disk LBA, or chunk × 256 plus the first offset of a flash piece; a SYNC has none (R77). -/
def firstLba (s : State) (x : Piece) : Option Nat :=
  match x.target with
  | .disk lba => some lba
  | .flash i first => some (((s.slot i).chunk.getD 0) * 256 + first)
  | .none => none

/-- The command status a host piece's completion merges as, with its failing LBA (R77). -/
def mergedAs (st : PieceStatus) (lba : Option Nat) : MediaStatus × Option Nat :=
  match st with
  | .ok => (.good, none)
  | .mediaError x => (.mediaError, lba.map (· + x))
  | .aborted => (.aborted, lba)
  | .notReady => (.good, none)
  | .diskUnavailable => (.diskUnavailable, lba)
  | .flashUnavailable => (.flashUnavailable, lba)

/-- A back-end NOT_READY is the port's unavailable status (R77, R90). -/
def PieceStatus.atPort (st : PieceStatus) (p : Port) : PieceStatus :=
  match st with
  | .notReady => forcedStatus p
  | st => st

/-! ### Host piece completions -/

/-- The offsets a flash piece covers. -/
def Piece.offsets (x : Piece) : OffsetSet :=
  match x.target with
  | .flash _ first => rangeSet first x.count
  | _ => 0#256

def Piece.isHost (x : Piece) : Bool :=
  match x.owner with
  | .context _ => false
  | .command _ | .orphan => true

/-- Offsets covered by later outstanding host flash WRITE pieces to the same slot (R82). -/
def laterWrites (i : Nat) (behind : List Piece) : OffsetSet :=
  behind.foldl (fun acc x =>
    match x.target with
    | .flash j _ => if j = i ∧ x.op = .write ∧ x.isHost then acc ||| x.offsets else acc
    | _ => acc) 0#256

/-- The failed offsets F of a flash READ at offset `x`: from `x` to the piece's last offset (R80). -/
def failedOffsets (first count x : Nat) : OffsetSet := rangeSet (first + x) (count - x)

/-- The map changes of a host flash piece's completion, an orphan's included: the inflight count falls (R6); a READ's
clean failed offsets leave the valid set (R80); a failed WRITE's offsets leave the sets but for those a later write
covers (R82). -/
def hostPieceMap (behind : List Piece) (x : Piece) (st : PieceStatus) (s : State) : State :=
  match x.target with
  | .flash i first =>
    modifySlot i (fun r =>
      let lowered : SlotRec := { r with inflight := r.inflight - 1 }
      match x.op, st with
      | .read, .mediaError e => lowered.drop (failedOffsets first x.count e &&& ~~~r.dirty)
      | .write, .ok => lowered
      | .write, _ => lowered.drop (x.offsets &&& ~~~(laterWrites i behind))
      | _, _ => lowered) s
  | _ => s

/-- The Command Table record counts a piece made for it, or one less. -/
def CommandRec.addPiece (r : CommandRec) : CommandRec := { r with outstanding := r.outstanding + 1 }
def CommandRec.dropPiece (r : CommandRec) : CommandRec := { r with outstanding := r.outstanding - 1 }

/-- The failing LBA of a fallback piece that did not complete OK (R81). -/
def fallbackFailLba (lba : Option Nat) (st : PieceStatus) : Option Nat :=
  match st with
  | .mediaError x => lba.map (· + x)
  | _ => lba

/-- A run joins a fallback list, which stays in ascending LBA (R80). -/
def insertRun (run : Nat × Nat) : List (Nat × Nat) → List (Nat × Nat)
  | [] => [run]
  | q :: rest => if run.1 < q.1 then run :: q :: rest else q :: insertRun run rest

/-- Make the fallback piece for one run of command `t`: a disk READ with the run's LBA and count, the command's
buffer and the run's buffer position (R80). One that completes at issue merges MEDIA_ERROR with its first LBA (R81,
R87, R104). With no free record the run joins the command's fallback list. -/
def makeFallback (t : Nat) (s : State) (run : Nat × Nat) : State :=
  match findCommand t s with
  | none => s
  | some r =>
    if freeRecords s = 0 then updateCommand t (fun r => { r with fallbackList := insertRun run r.fallbackList }) s
    else if forcedAtIssue .disk s then updateCommand t (fun r => r.merge .mediaError (some run.1)) s
    else
      let id := nextId s
      let x : Piece := ⟨id, .command t, .read, .disk run.1, run.2, .host r.buffer (run.1 - r.lba), false, .waiting, none⟩
      joinPort .disk x (spendChoice
        (updateCommand t (fun r => { r.addPiece with fallbackPieces := r.fallbackPieces ++ [id] }) s))

/-- What a host piece's completion does to the command that owns it, apart from fallback pieces (R77, R80, R81, R82).
`r0` is the slot a flash piece addressed, as it stood at the completion. -/
def mergeHostPiece (p : Port) (x : Piece) (st : PieceStatus) (lba : Option Nat) (r0 : SlotRec) (c : CommandRec) :
    CommandRec :=
  let c := c.dropPiece
  if c.fallbackPieces.contains x.id ∧ p = .disk then
    let c : CommandRec := { c with fallbackPieces := c.fallbackPieces.filter (· != x.id) }
    if st = .ok then c else c.merge .mediaError (fallbackFailLba lba st)
  else
    match x.op, x.target, st with
    | .read, .flash _ first, .mediaError e =>
      match lowest (failedOffsets first x.count e &&& r0.dirty) with
      | some o => c.merge .mediaError (some (r0.chunk.getD 0 * 256 + o))
      | none => c
    | _, _, _ =>
      let m := mergedAs (st.atPort p) lba
      c.merge m.1 m.2

/-- The disk runs of the clean failed offsets of a flash READ, ascending (R80). -/
def fallbackRuns (x : Piece) (st : PieceStatus) (r0 : SlotRec) : List (Nat × Nat) :=
  match x.op, x.target, st with
  | .read, .flash _ first, .mediaError e =>
    (runs (failedOffsets first x.count e &&& ~~~r0.dirty)).map (fun q => (r0.chunk.getD 0 * 256 + q.first, q.count))
  | _, _, _ => []

/-- The slot record a piece's completion is judged by. -/
def pieceSlot (s : State) (x : Piece) : SlotRec :=
  match x.target with
  | .flash i _ => s.slot i
  | _ => .free

/-- A host piece's completion is taken (R77 to R83; for an orphan R85). The piece has left its port's list, in which
`behind` are the pieces behind it. A record that its return frees serves its own fallback runs first, even while older
runs wait on fallback lists (R80, log entry 20). -/
def takeHostPiece (p : Port) (behind : List Piece) (x : Piece) (st : PieceStatus) (s : State) : State :=
  let r0 := pieceSlot s x
  let lba := firstLba s x
  let t := hostPieceMap behind x st s
  match x.owner with
  | .command tag =>
    let merged := updateCommand tag (mergeHostPiece p x st lba r0) t
    completeIfDone tag ((fallbackRuns x st r0).foldl (makeFallback tag) merged)
  | .orphan | .context _ => t

/-! ### Making host pieces -/

/-- A piece a portion makes, before it has a record. -/
structure PieceSpec where
  port : Port
  op : PieceOp
  target : PieceTarget
  count : Nat
  buffer : BufferRef
  deriving DecidableEq, Repr

/-- Make one host piece for command `t`: it takes a record (R75) and joins its port's list (R87); a flash piece raises
its slot's inflight count and sets referenced (R6, R7). At a FAULTED port, or at the Disk Port in a retry delay, it
completes at once (R87, R104). -/
def makeHostPiece (t : Nat) (s : State) (q : PieceSpec) : State :=
  let counted := updateCommand t CommandRec.addPiece s
  let marked := match q.target with
    | .flash i _ => modifySlot i (fun r => { r with inflight := r.inflight + 1, referenced := true }) counted
    | _ => counted
  let x : Piece := ⟨nextId s, .command t, q.op, q.target, q.count, q.buffer, false, .waiting, none⟩
  if forcedAtIssue q.port s then takeHostPiece q.port [] x (forcedStatus q.port) marked
  else joinPort q.port x (spendChoice marked)

/-! ### Portions (R67) -/

/-- Sectors of the portion at the cursor: to the chunk's or the command's last sector, whichever is first (R67). -/
def portionCount (r : CommandRec) : Nat := min (256 - r.cursor % 256) (r.lba + r.count - r.cursor)

/-- The chunk of the portion at the cursor. -/
def portionChunk (r : CommandRec) : Nat := r.cursor / 256

/-- The offsets O of the portion at the cursor. -/
def portionOffsets (r : CommandRec) : OffsetSet := rangeSet (r.cursor % 256) (portionCount r)

/-- A host piece's buffer reference and position: sectors from the command's LBA to the piece's first LBA (R67). -/
def hostBuffer (r : CommandRec) (lba : Nat) : BufferRef := .host r.buffer (lba - r.lba)

/-- One disk piece covering the portion. -/
def diskPortion (r : CommandRec) (op : PieceOp) : PieceSpec :=
  ⟨.disk, op, .disk r.cursor, portionCount r, hostBuffer r r.cursor⟩

/-- One flash WRITE piece covering the portion, into slot `i`. -/
def flashPortion (r : CommandRec) (i : Nat) : PieceSpec :=
  ⟨.flash, .write, .flash i (r.cursor % 256), portionCount r, hostBuffer r r.cursor⟩

/-- A READ portion of a bound chunk: the maximal runs of valid ∩ O from flash and of O − valid from disk, in ascending
offset order (R69). -/
def readPieces (r : CommandRec) (i : Nat) (valid : OffsetSet) : List PieceSpec :=
  let base := portionChunk r * 256
  let o := portionOffsets r
  (segmentsFrom (fun k => if o.getLsbD k then some (valid.getLsbD k) else none) 256 0).map (fun seg =>
    if seg.kind then ⟨.flash, .read, .flash i seg.run.first, seg.run.count, hostBuffer r (base + seg.run.first)⟩
    else ⟨.disk, .read, .disk (base + seg.run.first), seg.run.count, hostBuffer r (base + seg.run.first)⟩)

/-- Whether a WRITE portion of an unbound chunk is absorbed when a FREE slot exists (R71). -/
def absorbs (s : State) (r : CommandRec) : Bool :=
  classOf s.ranges r.cursor != .bypass &&
  match s.params.writeMode with
  | .around => false
  | .absorbWhenStopped => s.spindle.state != .running
  | .absorbAlways => true

/-- What a portion does: the pieces it makes, the slot record it writes first, and a status it merges (R69 to R73,
R84). -/
structure Plan where
  pieces : List PieceSpec
  slot : Option (Nat × SlotRec)
  merges : MediaStatus × Option Nat
  deriving DecidableEq, Repr

/-- A WRITE into a bound slot: O joins valid and dirty, and redirty while FLUSHING (R5, R17, R70). -/
def SlotRec.written (q : SlotRec) (o : OffsetSet) : SlotRec :=
  { q with
    valid := q.valid ||| o
    dirty := q.dirty ||| o
    redirty := if q.state = .flushing then q.redirty ||| o else q.redirty }

/-- The record an absorb binds: RESIDENT, valid = dirty = O, pinned from the chunk, referenced set (R12). Making its
flash piece raises the inflight count to 1. -/
def absorbed (s : State) (r : CommandRec) : SlotRec :=
  { SlotRec.free with
    state := .resident
    chunk := some (portionChunk r)
    valid := portionOffsets r
    dirty := portionOffsets r
    referenced := true
    pinned := chunkIn s .pin (portionChunk r) }

/-- A READ portion in ONLINE (R69). -/
def planRead (s : State) (r : CommandRec) : Plan :=
  match s.map.bound (portionChunk r) with
  | some (i, q) => ⟨readPieces r i q.valid, none, .good, none⟩
  | none => ⟨[diskPortion r .read], none, .good, none⟩

/-- A WRITE portion in ONLINE (R70, R71). -/
def planWrite (s : State) (r : CommandRec) : Plan :=
  match s.map.bound (portionChunk r) with
  | some (i, q) => ⟨[flashPortion r i], some (i, q.written (portionOffsets r)), .good, none⟩
  | none =>
    if absorbs s r then
      match s.map.lowestFree with
      | some i => ⟨[flashPortion r i], some (i, absorbed s r), .good, none⟩
      | none => ⟨[diskPortion r .write], none, .good, none⟩
    else ⟨[diskPortion r .write], none, .good, none⟩

/-- A TRIM portion: O leaves the three sets, no piece (R73). -/
def planTrim (s : State) (r : CommandRec) : Plan :=
  match s.map.bound (portionChunk r) with
  | some (i, q) => ⟨[], some (i, q.drop (portionOffsets r)), .good, none⟩
  | none => ⟨[], none, .good, none⟩

/-- A READ portion in FLASH_LOST: refused for dirty data, otherwise one disk piece (R84). -/
def planReadLost (s : State) (r : CommandRec) : Plan :=
  match s.map.bound (portionChunk r) with
  | some (_, q) =>
    match lowest (q.dirty &&& portionOffsets r) with
    | some o => ⟨[], none, .flashUnavailable, some (portionChunk r * 256 + o)⟩
    | none => ⟨[diskPortion r .read], none, .good, none⟩
  | none => ⟨[diskPortion r .read], none, .good, none⟩

/-- A WRITE portion in FLASH_LOST: one disk piece; O leaves the sets of a bound chunk's slot (R84). -/
def planWriteLost (s : State) (r : CommandRec) : Plan :=
  match s.map.bound (portionChunk r) with
  | some (i, q) => ⟨[diskPortion r .write], some (i, q.drop (portionOffsets r)), .good, none⟩
  | none => ⟨[diskPortion r .write], none, .good, none⟩

/-- The plan for a command's portion under the mode in force (R66, R84); none for a kind that is not routed in
portions. -/
def planPortion (s : State) (r : CommandRec) : Option Plan :=
  match r.kind with
  | .read => some (if s.sup.mode = .flashLost then planReadLost s r else planRead s r)
  | .write => some (if s.sup.mode = .flashLost then planWriteLost s r else planWrite s r)
  | .trim => some (planTrim s r)
  | _ => none

/-- The slot record of the plan is written. -/
def applySlot (w : Option (Nat × SlotRec)) (s : State) : State :=
  match w with
  | some (i, q) => putSlot i q s
  | none => s

/-- After the portion the cursor stands at the first sector after it; at LBA + count routing is done and the command
leaves the routing order (R67). -/
def advanceCursor (r : CommandRec) (s : State) : State :=
  let next := r.cursor + portionCount r
  let done : Bool := r.lba + r.count ≤ next
  let t := updateCommand r.tag (fun q => { q with cursor := next, routingDone := done }) s
  if done then { t with routing := t.routing.filter (· != r.tag) } else t

/-- The routing event of a portion: slot change, pieces in ascending offset order, cursor, completion (R67, R79). -/
def applyPlan (r : CommandRec) (pl : Plan) (s : State) : State :=
  let merged := updateCommand r.tag (fun q => q.merge pl.merges.1 pl.merges.2) (applySlot pl.slot s)
  completeIfDone r.tag (advanceCursor r (pl.pieces.foldl (makeHostPiece r.tag) merged))

/-! ### Reported accesses (R29, R68) -/

/-- The command's sectors that lie in region `g`: first sector and number. -/
def regionSpan (r : CommandRec) (g : Nat) : Nat × Nat :=
  let lo := max r.lba (g * 2048)
  (lo, min (r.lba + r.count) (g * 2048 + 2048) - lo)

/-- The chunk positions of region `g` that hold at least one of the sectors `lo` to `lo + n − 1`. -/
def touchedPositions (g lo n : Nat) : ChunkSet :=
  BitVec.ofNat 8 (((List.range 8).filter (fun p =>
    lo < g * 2048 + 256 * p + 256 ∧ g * 2048 + 256 * p < lo + n)).foldl (fun acc p => acc + 2 ^ p) 0)

/-- The access that routing the portion at the cursor reports, if it reports one: at the command's first portion in
the region, for a non-streaming READ or WRITE, in ONLINE with Heat not held (R29, R68). -/
def reportedAccess (s : State) (r : CommandRec) : Option Access :=
  if (r.kind = .read ∨ r.kind = .write) ∧ r.streaming = false ∧ s.sup.mode = .online ∧ s.held .heat = false ∧
      (r.cursor = r.lba ∨ r.cursor % 2048 = 0) then
    let g := r.cursor / 2048
    let span := regionSpan r g
    some ⟨g, r.kind == .write, span.2, touchedPositions g span.1 span.2, classOf s.ranges span.1⟩
  else none

/-- Some command's runs wait for fallback pieces. -/
def fallbackWaiting (s : State) : Bool := s.commands.any (fun r => !r.fallbackList.isEmpty)

/-- Whether fallback pieces are to be made before the Router routes (R80). -/
def fallbackFirst (s : State) : Bool := fallbackWaiting s && freeRecords s != 0

/-- The command at the front of the routing order (R67). -/
def frontCommand (s : State) : Option CommandRec := s.routing.head?.bind (fun t => findCommand t s)

/-- The routing event of the front command's portion with the access taken before or after the Router's changes
(R34, R68); not taken while the pool is short (R75) or fallback pieces are to be made (R80). With `accessFirst` the new
access is taken ahead of reported accesses still in transit (R29, R68; log entry 6). -/
def routePortion (order : AccessOrder) (s : State) : Option State :=
  match frontCommand s with
  | none => none
  | some r =>
    match planPortion s r with
    | none => none
    | some pl =>
      if fallbackFirst s ∨ freeRecords s < pl.pieces.length then none
      else
        match reportedAccess s r, order with
        | none, _ => some (applyPlan r pl s)
        | some a, .accessFirst => some (applyPlan r pl (takeAccess a s))
        | some a, .routeFirst =>
          let t := applyPlan r pl s
          some { t with accesses := t.accesses ++ [a] }

/-- The pieces of a SYNC: one for the Flash Port in ONLINE, one for the Disk Port while the spindle is RUNNING (R74). -/
def syncPieces (s : State) : List PieceSpec :=
  (if s.sup.mode = .online then [⟨.flash, .sync, .none, 0, .none⟩] else []) ++
  (if s.spindle.state = .running then [⟨.disk, .sync, .none, 0, .none⟩] else [])

/-- The one routing event of a SYNC (R74). -/
def routeSync (s : State) : Option State :=
  match frontCommand s with
  | none => none
  | some r =>
    if r.kind ≠ .sync ∨ fallbackFirst s ∨ freeRecords s < (syncPieces s).length then none
    else
      let made := (syncPieces s).foldl (makeHostPiece r.tag) s
      let done := updateCommand r.tag (fun q => { q with routingDone := true }) made
      some (completeIfDone r.tag { done with routing := done.routing.filter (· != r.tag) })

/-- The runs that wait on fallback lists, the oldest command's first, each list ascending (R80). -/
def waitingRuns (s : State) : List (Nat × (Nat × Nat)) :=
  s.commands.flatMap (fun r => r.fallbackList.map (fun q => (r.tag, q)))

/-- Make the piece of one waiting run if a record is free (R80). -/
def makeWaiting (s : State) (e : Nat × (Nat × Nat)) : State :=
  if freeRecords s = 0 then s
  else
    completeIfDone e.1 (makeFallback e.1
      (updateCommand e.1 (fun r => { r with fallbackList := r.fallbackList.drop 1 }) s) e.2)

/-- The Router makes fallback pieces as records are free (R80, log entry 20). -/
def fallbackPieceMake (s : State) : Option State :=
  if fallbackFirst s then some ((waitingRuns s).foldl makeWaiting s) else none

end Sys2Proof.Machine
end

