-- ==== Sys2Proof/Machine/Mover.lean ====
section
/-! DEFINITION. The Mover and the Job Arbiter's side of a grant and of a job's end (chapter 8; R122 to R125). An
operation here answers a state and, where the event makes another job ACTIVE, which context then starts or goes on in
the same event (R123, R124). -/

namespace Sys2Proof.Machine

/-! ### Services and watchdogs -/

/-- What an event still has to do for a job that has just become ACTIVE: start it (R129) or let it go on (R124). -/
inductive Follow where
  | start (c : CtxId)
  | resume (c : CtxId)
  deriving DecidableEq, Repr

/-- How a job ends (R132). -/
inductive JobEnd where
  | done
  | skipped
  | failed (reason : FailReason) (lba : Option Nat)
  deriving DecidableEq, Repr

/-- The class whose in-service record is in state `st`, with its job and context. -/
def serviceIn (st : ServiceState) (s : State) : Option (JobClass × Job × CtxId) :=
  allClasses.findSome? (fun k =>
    match s.arbiter.service.get k with
    | .job st' j c => if st' = st then some (k, j, c) else none
    | .none | .awaitAck => none)

/-- Put a class's job in service in state `st`. -/
def setServiceState (k : JobClass) (st : ServiceState) (s : State) : State :=
  match s.arbiter.service.get k with
  | .job _ j c => setService k (.job st j c) s
  | .none | .awaitAck => s

/-- Load a context's watchdog with the full limit while the watchdog code is nonzero (R143). -/
def loadWatchdog (c : CtxId) (s : State) : State :=
  if s.params.watchdogCode = 0 then s
  else modifyCtx c (fun x => { x with watchdog := some (s.params.watchdogCode * 10) }) s

/-- A job becomes SUSPENDED: its watchdog stops and pool wait is cleared (R123, R131, R143). -/
def suspend (k : JobClass) (c : CtxId) (s : State) : State :=
  setServiceState k .suspended (modifyCtx c (fun x => { x with watchdog := none, poolWait := false }) s)

/-- The PENDING job becomes ACTIVE and starts (R123). -/
def promotePending (s : State) : State × Option Follow :=
  match serviceIn .pending s with
  | some (k, _, c) => (setServiceState k .active s, some (.start c))
  | none => (s, none)

/-- The SUSPENDED job becomes ACTIVE and continues (R124). -/
def resumeSuspended (s : State) : State × Option Follow :=
  match serviceIn .suspended s with
  | some (k, _, c) => (setServiceState k .active s, some (.resume c))
  | none => (s, none)

/-! ### Job ends -/

/-- The slot a job holds or claims: the one it knows, or that of its chunk for a Directed FLUSH or EVICT that has not
started (R9, R137). -/
def jobSlot (x : Context) (s : State) : Option Nat :=
  match x.slot with
  | some i => some i
  | none => if x.action = .fill then none else x.chunk.bind s.map.slotOf

/-- A fill's slot leaves FILLING (R14, R136). -/
def SlotRec.afterFill (r : SlotRec) : SlotRec :=
  if r.valid = 0#256 ∧ r.inflight = 0 then .free else { r with state := .resident, queued := false }

/-- A flush's slot leaves FLUSHING, or an unstarted flush's claim on it ends; a slot the job has freed stays FREE
(R9, R15, R137). -/
def SlotRec.afterFlush (r : SlotRec) : SlotRec :=
  if r.state = .free then r
  else { r with state := if r.state = .flushing then .resident else r.state, redirty := 0#256, queued := false }

/-- The job's slot as the ending event leaves it (R132). -/
def releaseJobSlot (x : Context) (s : State) : State :=
  match jobSlot x s with
  | some i => modifySlot i (if x.action = .fill then SlotRec.afterFill else SlotRec.afterFlush) s
  | none => s

/-- A FAILED end replaces the failure record and sets JOB_FAILED (R141). -/
def recordEnd (x : Context) (e : JobEnd) (s : State) : State :=
  match e with
  | .failed reason lba =>
    setFlag .jobFailed { s with mover := { s.mover with
      failure := some ⟨x.cls, x.action, x.chunk, x.slot, reason, lba, x.phase⟩ } }
  | .done | .skipped => s

/-- A class's service ends: NONE, and L becomes the class in ROTATING mode (R118, R124, R126). -/
def endServiceOf (k : JobClass) (s : State) : State :=
  let t := setService k .none s
  if s.params.priority = .rotating then { t with arbiter := { t.arbiter with lowest := k } } else t

/-- The class's service at its job's end: ended without rotation under a Mover hold or for a job that the hold ended
(R128, log entry 18), ended under AUTO, AWAIT_ACK with ACK_WAIT set under ACK (R124, R125). A job whose cause is TIMEOUT
and whose piece outlasts a Mover hold, placed and released meanwhile, ends with its pacing and rotation (log entry
18). -/
def takeJobEnd (k : JobClass) (cause : Option AbortCause) (s : State) : State :=
  if s.held .mover ∨ cause = some .held then setService k .none s
  else
    match s.params.pacing.get k with
    | .auto => endServiceOf k s
    | .ack => setFlag .ackWait (setService k .awaitAck s)

/-- The state a class's job is in, if it has one in service. -/
def serviceStateOf (k : JobClass) (s : State) : Option ServiceState :=
  match s.arbiter.service.get k with
  | .job st _ _ => some st
  | .none | .awaitAck => none

/-- End the job of context `c`: slot, failure record, context, service, a stall of the Pin Scanner that the slot's
release ends (R61; the examination afresh is an event of its own, R60), and the job that becomes ACTIVE by it (R124,
R132). Under a Mover hold no job becomes ACTIVE (log entry 18). -/
def endJob (c : CtxId) (e : JobEnd) (s : State) : State × Option Follow :=
  match s.ctx c with
  | none => (s, none)
  | some x =>
    let t := judgeStall (takeJobEnd x.cls x.abort (setCtx c none (recordEnd x e (releaseJobSlot x s))))
    if s.held .mover then (t, none)
    else
      match serviceStateOf x.cls s with
      | some .active => resumeSuspended t
      | some .suspending => promotePending t
      | _ => (t, none)

/-! ### The next piece of a job -/

/-- What a job does next: end DONE, take the evict check, or issue a piece, with the context as the issue leaves it. -/
inductive Work where
  | finish
  | check
  | issue (q : PieceSpec) (x : Context)
  deriving DecidableEq, Repr

/-- FILL, DISK READ: the span from the lowest to the highest offset not valid (R134). -/
def diskReadWork (c : CtxId) (x : Context) (chunk : Nat) (valid : OffsetSet) : Work :=
  match lowest (~~~valid), highest (~~~valid) with
  | some lo, some hi =>
    .issue ⟨.disk, .read, .disk (chunk * 256 + lo), hi + 1 - lo, .staging c lo⟩
      { x with readSpan := some (lo, hi), cursor := lo }
  | _, _ => .finish

/-- The missing set: span offsets at or above the write cursor that are not valid (R135). -/
def missingSet (x : Context) (valid : OffsetSet) : OffsetSet :=
  match x.readSpan with
  | some (_, hi) => rangeSet x.cursor (hi + 1 - x.cursor) &&& ~~~valid
  | none => 0#256

/-- FILL, FLASH WRITE: the lowest run of the missing set; the cursor moves past it (R135). -/
def flashWriteWork (c : CtxId) (x : Context) (slot : Nat) (valid : OffsetSet) : Work :=
  match (runs (missingSet x valid)).head? with
  | some q =>
    .issue ⟨.flash, .write, .flash slot q.first, q.count, .staging c q.first⟩ { x with cursor := q.first + q.count }
  | none => .finish

/-- FLUSH, the piece of the run at the run index: its flash read or its disk write (R138). -/
def flushWork (c : CtxId) (x : Context) (chunk slot : Nat) (toDisk : Bool) : Work :=
  match x.snapshot[x.runIndex]? with
  | some q =>
    .issue (if toDisk then ⟨.disk, .write, .disk (chunk * 256 + q.first), q.count, .staging c q.first⟩
      else ⟨.flash, .read, .flash slot q.first, q.count, .staging c q.first⟩) x
  | none => if x.action = .evict then .check else .finish

/-- The job's next work, computed from the slot record as it stands (R131). -/
def nextWork (c : CtxId) (x : Context) (s : State) : Work :=
  let slot := x.slot.getD 0
  let chunk := x.chunk.getD 0
  match x.phase with
  | .starting => .finish
  | .diskRead => diskReadWork c x chunk (s.slot slot).valid
  | .flashWrite => flashWriteWork c x slot (s.slot slot).valid
  | .flashRead => flushWork c x chunk slot false
  | .diskWrite => flushWork c x chunk slot true
  | .evictCheck => .check

/-! ### Taking a piece's completion -/

/-- The run of the chunk that a Mover piece covers (R130). -/
def Piece.run (x : Piece) : Run :=
  match x.buffer with
  | .staging _ pos => ⟨pos, x.count⟩
  | _ => ⟨0, x.count⟩

/-- The job fails with the reason of a piece's status, or with that of the abort it has asked for (R132, R144, R145). -/
def failReason (p : Port) (cause : Option AbortCause) (st : PieceStatus) : FailReason :=
  match cause with
  | some .timeout => .timeout
  | some .held => .held
  | none =>
    match st.atPort p with
    | .ok | .notReady | .aborted => .aborted
    | .mediaError _ => .mediaError
    | .flashUnavailable => .flashUnavailable
    | .diskUnavailable => .diskUnavailable

/-- The failing LBA of the failure record: for MEDIA_ERROR, chunk × 256 plus the failing offset (R141). -/
def failLba (x : Context) (q : Piece) (reason : FailReason) (st : PieceStatus) : Option Nat :=
  match reason, st with
  | .mediaError, .mediaError off => some (x.chunk.getD 0 * 256 + q.run.first + off)
  | _, _ => none

/-- A flush's flash read that fails on dirty data sets MEDIA_LOSS (R139). -/
def judgeMediaLoss (x : Context) (q : Piece) (st : PieceStatus) (s : State) : State :=
  match x.phase, st with
  | .flashRead, .mediaError off =>
    if failedOffsets q.run.first q.run.count off &&& (s.slot (x.slot.getD 0)).dirty = 0#256 then s
    else setFlag .mediaLoss s
  | _, _ => s

/-- The job ends FAILED at a piece that did not complete OK (R134, R135, R139). -/
def failAtPiece (c : CtxId) (p : Port) (q : Piece) (st : PieceStatus) (s : State) : State × Option Follow :=
  match s.ctx c with
  | none => (s, none)
  | some x =>
    let reason := failReason p x.abort st
    endJob c (.failed reason (failLba x q reason st))
      (judgeMediaLoss x q st (setCtx c (some { x with piece := none }) s))

/-- The slot change of a Mover piece that completed OK: a fill's run joins the valid set (R135), a flush run's offsets
outside the redirty set leave the dirty set (R15, R138). -/
def applyPiece (x : Context) (q : Piece) (s : State) : State :=
  let run := rangeSet q.run.first q.run.count
  match x.phase, x.slot with
  | .flashWrite, some i => modifySlot i (fun r => { r with valid := r.valid ||| run }) s
  | .diskWrite, some i => modifySlot i (fun r => { r with dirty := r.dirty &&& ~~~(run &&& ~~~r.redirty) }) s
  | _, _ => s

/-- The context after a piece has completed OK: the staging buffer, the phase, the run index, and whether it still uses
the disk (R106, R130, R134, R138). -/
def Context.passed (x : Context) (q : Piece) : Context :=
  let run := rangeSet q.run.first q.run.count
  match x.phase with
  | .diskRead => { x with phase := .flashWrite, staged := x.staged ||| run, usingDisk := false }
  | .flashRead => { x with phase := .diskWrite, staged := x.staged ||| run }
  | .diskWrite =>
    if x.runIndex + 1 < x.snapshot.length then { x with phase := .flashRead, runIndex := x.runIndex + 1 }
    else { x with
      phase := if x.action = .evict then .evictCheck else .flashRead
      runIndex := x.runIndex + 1, usingDisk := false }
  | _ => x

/-- When an EVICT's flush phase ends, its slot returns to RESIDENT with its redirty set emptied (R140). -/
def leaveFlushPhase (x : Context) (s : State) : State :=
  match x.phase, x.slot with
  | .evictCheck, some i =>
    modifySlot i (fun r => if r.state = .flushing then { r with state := .resident, redirty := 0#256 } else r) s
  | _, _ => s

/-- The evict check: the slot is freed when it is clean, unpinned and with inflight count 0; otherwise BUSY (R140). -/
def evictCheck (c : CtxId) (x : Context) (s : State) : State × Option Follow :=
  let r := s.slot (x.slot.getD 0)
  if r.dirty = 0#256 ∧ r.pinned = false ∧ r.inflight = 0 then
    endJob c .done (putSlot (x.slot.getD 0) .free s)
  else endJob c (.failed .busy none) s

/-- Issue a piece (R131): with no free record the context sets pool wait; at a FAULTED port, or at the Disk Port in a
retry delay, the piece completes in the issuing event (R87, R104); otherwise it joins its port's list. `x` is the
context before the issue, `x'` the context as the issue leaves it. -/
def issuePiece (c : CtxId) (q : PieceSpec) (x x' : Context) (s : State) : State × Option Follow :=
  let id := nextId s
  let piece : Piece := ⟨id, .context c, q.op, q.target, q.count, q.buffer, false, .waiting, none⟩
  if freeRecords s = 0 then (setCtx c (some { x with poolWait := true }) s, none)
  else if forcedAtIssue q.port s then
    failAtPiece c q.port piece (forcedStatus q.port) (setCtx c (some { x' with poolWait := false }) s)
  else
    (joinPort q.port piece (spendChoice
      (setCtx c (some { x' with piece := some id, poolWait := false }) s)), none)

/-- An ACTIVE job goes on from its phase (R131). -/
def advance (c : CtxId) (s : State) : State × Option Follow :=
  match s.ctx c with
  | none => (s, none)
  | some x =>
    match nextWork c x s with
    | .finish => endJob c .done s
    | .check => evictCheck c x s
    | .issue q x' => issuePiece c q x x' s

/-- A SUSPENDING job whose piece has completed OK: SUSPENDED if it has more work, and ended otherwise (R123). -/
def settleSuspending (c : CtxId) (x : Context) (s : State) : State × Option Follow :=
  match nextWork c x s with
  | .finish => endJob c .done s
  | .check => evictCheck c x s
  | .issue _ _ => promotePending (suspend x.cls c s)

/-- A Mover piece's OK completion (R123, R131, R144): the watchdog is loaded, the result is applied, and the job ends if
it had asked for an abort, suspends if it was asked to, or issues its next piece. R141 does not say which phase the
record of a job so ended keeps, the piece's or the one its OK would lead to: the piece's own is the model's choice
(DESIGN CHOICE, log entry 32). -/
def passPiece (c : CtxId) (q : Piece) (s : State) : State × Option Follow :=
  match s.ctx c with
  | none => (s, none)
  | some x =>
    let applied := applyPiece x q (loadWatchdog c (setCtx c (some { x with piece := none }) s))
    match x.abort with
    | some .timeout => endJob c (.failed .timeout none) applied
    | some .held => endJob c (.failed .held none) applied
    | none =>
      let x' := x.passed q
      let t := leaveFlushPhase x' (modifyCtx c (fun y => y.passed q) applied)
      if serviceStateOf x.cls s = some .suspending then settleSuspending c x' t else advance c t

/-- The job of context `c` takes its piece's completion (R131). The piece has left its port's list. -/
def moverTake (c : CtxId) (p : Port) (q : Piece) (st : PieceStatus) (s : State) : State × Option Follow :=
  if st = .ok then passPiece c q s else failAtPiece c p q st s

/-! ### Starts -/

/-- A fill takes slot `i`, whose record becomes `r` (R13, R133), and issues its disk read. -/
def takeFillSlot (c : CtxId) (x : Context) (i : Nat) (r : SlotRec) (s : State) : State × Option Follow :=
  advance c (setCtx c (some { x with slot := some i, phase := .diskRead }) (putSlot i r s))

/-- The record of a slot that a fill binds (R13): FILLING, empty sets, pinned computed, queued set. -/
def filledSlot (s : State) (chunk : Nat) : SlotRec :=
  { SlotRec.free with state := .filling, chunk := some chunk, pinned := chunkIn s .pin chunk, queued := true }

/-- The start of a FILL (R133). -/
def startFill (c : CtxId) (x : Context) (s : State) : State × Option Follow :=
  let chunk := x.chunk.getD 0
  if chunkIn s .bypass chunk then endJob c .skipped s
  else
    match s.map.bound chunk with
    | some (i, r) =>
      if r.valid = fullSet then endJob c .skipped s
      else takeFillSlot c x i { r with state := .filling, queued := true } s
    | none =>
      match s.map.lowestFree with
      | some i => takeFillSlot c x i (filledSlot s chunk) s
      | none => endJob c (.failed .noSlot none) s

/-- The start of a FLUSH or an EVICT on slot `i` (R137, R140; log entry 28). The run index counts the snapshot's runs
from 0 (log entry 16). -/
def startFlush (c : CtxId) (x : Context) (i : Nat) (s : State) : State × Option Follow :=
  let r := s.slot i
  let known : Context := { x with slot := some i, chunk := r.chunk }
  if r.state ≠ .resident then endJob c .skipped (setCtx c (some known) s)
  else if r.dirty ≠ 0#256 then
    advance c (setCtx c (some { known with phase := .flashRead, snapshot := runs r.dirty, runIndex := 0 })
      (putSlot i { r with state := .flushing, redirty := 0#256 } s))
  else if x.action = .evict then
    advance c (setCtx c (some { known with phase := .evictCheck }) s)
  else endJob c .skipped (setCtx c (some known) s)

/-- The Mover starts a job (R129); its watchdog is loaded (R143). -/
def startJob (c : CtxId) (s : State) : State × Option Follow :=
  match (loadWatchdog c s).ctx c with
  | none => (s, none)
  | some x =>
    if x.action = .fill then startFill c x (loadWatchdog c s)
    else
      match jobSlot x s with
      | some i => startFlush c x i (loadWatchdog c s)
      | none => endJob c .skipped (loadWatchdog c s)

/-- A job that has become ACTIVE starts or goes on (R123, R124, R129). -/
def follow (f : Follow) (s : State) : State × Option Follow :=
  match f with
  | .start c => startJob c s
  | .resume c => advance c (loadWatchdog c s)

/-- Run what an event still has to do. One event makes at most three jobs ACTIVE in turn: the granted one, the one it
had suspended, and none after that (R121, R124); the bound is above that. -/
def runMover : Nat → State × Option Follow → State
  | 0, p => p.1
  | _ + 1, (s, none) => s
  | n + 1, (s, some f) => runMover n (follow f s)

/-- The bound used for every event. -/
def moverBound : Nat := 4

/-! ### Grant -/

/-- The context for a granted job: 0 when none is occupied, and otherwise the free one (R129). -/
def grantContext (s : State) : CtxId := if s.mover.ctx0.isNone then .ctx0 else .ctx1

/-- The job's work needs the disk: a FILL, or a FLUSH or EVICT whose slot is dirty (R100). -/
def needsDisk (s : State) (j : Job) : Bool :=
  j.action == .fill ||
  match j.target with
  | .slot i => (s.slot i).isDirty
  | .chunk c => (s.map.bound c).any (fun e => e.2.isDirty)

/-- The context of a granted job before its start: its class, its queue entry and phase STARTING (R129, R142). -/
def grantedContext (k : JobClass) (j : Job) (uses : Bool) : Context where
  cls := k
  action := j.action
  chunk := match j.target with | .chunk c => some c | .slot _ => none
  slot := match j.target with | .slot i => some i | .chunk _ => none
  phase := .starting
  readSpan := none
  cursor := 0
  snapshot := []
  runIndex := 0
  piece := none
  poolWait := false
  abort := none
  watchdog := none
  usingDisk := uses
  staged := 0#256

/-- The entry leaves its queue; a WAITING hand is released by a Flush-Urgent grant (R152). -/
def leaveQueue (k : JobClass) (rest : List Job) (s : State) : State :=
  let t : State := { s with arbiter := { s.arbiter with queues := s.arbiter.queues.set k rest } }
  match k with
  | .flushUrgent => if t.reclaimer.condition = .waiting then releaseHand t else t
  | _ => t

/-- The ACTIVE job is asked to suspend by a grant that has made class `k` PENDING in context `c` (R122, R123). -/
def askToSuspend (k : JobClass) (c : CtxId) (s : State) : State × Option Follow :=
  match serviceIn .active s with
  | none => (setServiceState k .active s, some (.start c))
  | some (k', _, c') =>
    if (s.ctx c').any (·.piece.isSome) then (setServiceState k' .suspending s, none)
    else (setServiceState k .active (suspend k' c' s), some (.start c))

/-- The grant of class `k` (R122): the front job leaves its queue and takes a context, and a stall of the Pin Scanner
that this ends is over before the job starts (R61); a Flush-Urgent or Directed job whose work needs the disk is a disk
need in this event (R100, R101). -/
def grant (k : JobClass) (s : State) : State × Option Follow :=
  match s.arbiter.queues.get k with
  | [] => (s, none)
  | j :: rest =>
    let c := grantContext s
    let uses := needsDisk s j
    let occupied : Bool := occupiedContexts s != 0
    let placed := setService k (.job (if occupied then .pending else .active) j c)
      (setCtx c (some (grantedContext k j uses)) (leaveQueue k rest s))
    let given := if k = .pinFill then resumeScan placed else placed
    let t := if uses ∧ k.needsRunning = false then actOnNeed given else given
    if occupied then askToSuspend k c t else (t, some (.start c))

end Sys2Proof.Machine
end

