-- ==== Sys2Proof/Machine/Ports.lean ====
section
/-! DEFINITION. The two ports and Spindle Control's side of port events (chapters 5 and 6): completions, timeouts, aborts,
faults, probes, HALT, the ends of a START and of a STOP; and the mode changes that port events cause (R166). -/

namespace Sys2Proof.Machine

/-! ### Handing completions to owners -/

/-- A piece that has left its port's list is handed to its owner (R90). `behind` are the pieces that stood behind it. -/
def deliver (p : Port) (behind : List Piece) (x : Piece) (st : PieceStatus) (s : State) : State :=
  match x.owner with
  | .context c => runMover moverBound (moverTake c p x st s)
  | .command _ | .orphan => takeHostPiece p behind x st s

/-- The piece with an id, and the pieces behind it. -/
def findPiece (id : Nat) : List Piece → Option (Piece × List Piece)
  | [] => none
  | x :: rest => if x.id = id then some (x, rest) else findPiece id rest

def PortUnit.without (u : PortUnit) (id : Nat) : PortUnit := { u with list := u.list.filter (fun x => x.id != id) }

/-- Change the piece with an id. -/
def modifyPiece (p : Port) (id : Nat) (f : Piece → Piece) (s : State) : State :=
  setPort p { s.port p with list := (s.port p).list.map (fun x => if x.id = id then f x else x) } s

def setTimeouts (p : Port) (n : Nat) (s : State) : State := setPort p { s.port p with timeouts := n } s

/-- The record of a piece completed without a back-end message while the back-end holds it is withheld (R86). -/
def withhold (p : Port) (id : Nat) (s : State) : State :=
  setPort p { s.port p with withheld := (s.port p).withheld ++ [id] } s

/-- A listed piece completes: it leaves the list wherever it stands, and its owner takes the completion (R87, R90). -/
def completePiece (p : Port) (id : Nat) (st : PieceStatus) (s : State) : State :=
  match findPiece id (s.port p).list with
  | some (x, behind) => deliver p behind x st (setPort p ((s.port p).without id) s)
  | none => s

/-- A listed piece completes with the port's forced status; the record of a piece that has been sent is withheld (R86,
R94, R103). -/
def forcePiece (p : Port) (s : State) (id : Nat) : State :=
  match findPiece id (s.port p).list with
  | some (x, _) =>
    completePiece p id (forcedStatus p) (if x.state = .waiting then s else withhold p id s)
  | none => s

/-- The listed pieces that meet `f` complete with the port's forced status, in list order. -/
def forceWhere (p : Port) (f : Piece → Bool) (s : State) : State :=
  (((s.port p).list.filter f).map (·.id)).foldl (forcePiece p) s

/-! ### Mode changes (R166) -/

def setMode (m : Mode) (s : State) : State := { s with sup := { s.sup with mode := m } }

/-- Into ONLINE: a Pin Scanner restart is requested. The hand, the dirty-high need and a grant follow from the mode at
the event's end (R156, R166). -/
def enterOnline (s : State) : State := restartScanner (setMode .online s)

/-- Into FLASH_LOST: the Pin Scanner goes IDLE. The IDLE duty and the hand follow from the mode at the event's end
(R149, R150, R166). -/
def enterFlashLost (s : State) : State := idleScanner (setMode .flashLost s)

/-! ### Spindle Control -/

/-- The spindle becomes STOPPED: a SPIN DOWN that holds the head is to complete, and none is pending (R109). -/
def noteStopped (phase : SpinDownPhase) (s : State) : State :=
  let t : State := { s with spindle := { s.spindle with pendingSpinDown := false } }
  match t.link.headHold with
  | some ⟨tag, .spinDown .waiting⟩ => placeHold tag (.spinDown phase) t
  | _ => t

/-- The start fails (R103): STOPPED with start-failed and SPIN_FAIL set and the retry delay running. -/
def markStartFailed (s : State) : State :=
  setFlag .spinFail { s with spindle := { s.spindle with
    state := .stopped, startTimer := none, startFailed := true, restartPending := false
    retryTimer := some (s.params.retryDelay * 1000) } }

/-- A failed start (R103): the WAITING disk pieces, and those still SENT from a HALT, complete DISK_UNAVAILABLE in list
order (R98, log entry 12). -/
def failStart (s : State) : State :=
  noteStopped .stopped (forceWhere .disk (fun x => x.state != .aborting) (markStartFailed s))

/-- The STOP is completed (R105): STOPPED, and START in the same event if restart-pending is set. -/
def finishStop (s : State) : State :=
  let t := noteStopped .stopped { s with spindle := { s.spindle with
    state := .stopped, startTimer := none, restartPending := false } }
  if s.spindle.restartPending then sendStart t else t

/-- The owner of a piece has asked for its abort (R93). -/
def ownerAsked (s : State) (x : Piece) : Bool :=
  match x.owner with
  | .context c => (s.ctx c).any (·.abort.isSome)
  | .command _ | .orphan => false

/-- A caught piece completed ABORTED goes back to WAITING once (R98). -/
def retries (s : State) (x : Piece) : Bool := !x.retryUsed && !ownerAsked s x

/-- A piece caught by a HALT is taken as completed ABORTED (R98): it returns to WAITING at its place, or completes. -/
def takeCaughtAborted (s : State) (id : Nat) : State :=
  match findPiece id s.disk.list with
  | some (x, _) =>
    if retries s x then modifyPiece .disk id (fun y => { y with state := .waiting, retryUsed := true, timer := none }) s
    else completePiece .disk id .aborted (setTimeouts .disk 0 s)
  | none => s

/-- A context's disk piece waits at the Disk Port, or is held SENT after a HALT (R143). -/
def waitsForDisk (s : State) (x : Context) : Bool :=
  x.piece.any (fun id => s.disk.list.any (fun q => q.id == id && q.state != .aborting))

/-- Watchdogs stopped behind a spindle that was not RUNNING are loaded when it reaches RUNNING (R143). -/
def reloadWatchdog (s : State) (c : CtxId) : State :=
  if (s.ctx c).any (waitsForDisk s) then loadWatchdog c s else s

/-- The spindle reaches RUNNING: watchdogs are loaded, and the WAITING disk pieces are sent (R87, R143). -/
def enterRunning (s : State) : State :=
  sendWaiting .disk ([CtxId.ctx0, .ctx1].foldl reloadWatchdog
    { s with spindle := { s.spindle with state := .running, startFailed := false } })

/-- A START reply of OK (R102): pieces still SENT from a HALT are taken as ABORTED, in list order (R98, log entry 12),
then the spindle is RUNNING. -/
def finishStart (s : State) : State :=
  let caught := ((s.disk.list.filter (fun x => x.state == .sent)).map (·.id)).foldl takeCaughtAborted
    { s with spindle := { s.spindle with startTimer := none } }
  enterRunning caught

/-! ### Aborts and faults -/

/-- The spindle's part of a Disk Port fault (R94, R111). -/
def faultSpindle (s : State) : State :=
  let t := match s.spindle.state with
    | .starting => markStartFailed s
    | .stopped | .running | .stopping =>
      { s with spindle := { s.spindle with
          state := .stopped, idleTimer := none, startTimer := none, restartPending := false } }
  noteStopped .halted t

/-- A port faults (R94). -/
def faultPort (p : Port) (s : State) : State :=
  let forced := forceWhere p (fun _ => true) (setPort p { s.port p with status := .faulted, timeouts := 0 } s)
  let flagged := setFlag .portFault forced
  match p with
  | .flash => if flagged.sup.mode = .online then enterFlashLost flagged else flagged
  | .disk => faultSpindle flagged

/-- The consecutive-timeout count rises; at 3 the port faults (R92). -/
def countTimeout (p : Port) (s : State) : State :=
  if (s.port p).timeouts + 1 < 3 then setTimeouts p ((s.port p).timeouts + 1) s else faultPort p s

/-- A piece timer expires (R92): a SENT piece is aborted and timed again with the same limit; an ABORTING one is timed
again. An expiry is taken only of a piece whose timer runs. -/
def pieceTimeout (p : Port) (id : Nat) (s : State) : Option State :=
  match findPiece id (s.port p).list with
  | some (x, _) =>
    if x.timer.isNone then none
    else
      match x.state with
      | .sent => some (countTimeout p (sendMessage p (.abort id) (modifyPiece p id (fun y => { y with state := .aborting }) s)))
      | .aborting => some (countTimeout p s)
      | .waiting => none
  | none => none

/-- A Mover context asks its port to abort its piece (R93). -/
def ownerAbort (p : Port) (id : Nat) (s : State) : State :=
  match findPiece id (s.port p).list with
  | some (x, _) =>
    match x.state with
    | .waiting => completePiece p id .aborted s
    | .sent =>
      if p = .disk ∧ s.spindle.state ≠ .running then s
      else sendMessage p (.abort id) (modifyPiece p id (fun y => { y with state := .aborting }) s)
    | .aborting => s
  | none => s

/-- The port whose list holds a piece. -/
def portOf (id : Nat) (s : State) : Port := if s.flash.list.any (fun x => x.id == id) then .flash else .disk

/-- A context's abort cause is set, and the job ends at once or its piece is to be aborted (R144, R145). A cause already
set stands. -/
def abortJob (cause : AbortCause) (c : CtxId) (s : State) : State :=
  match s.ctx c with
  | none => s
  | some x =>
    if x.abort.isSome then s
    else
      let marked := setCtx c (some { x with abort := some cause }) s
      match x.piece with
      | some id => ownerAbort (portOf id s) id marked
      | none =>
        runMover moverBound (endJob c (.failed (match cause with | .timeout => .timeout | .held => .held) none) marked)

/-- A context's watchdog expires (R144). -/
def watchdogExpiry (c : CtxId) (s : State) : Option State :=
  match s.ctx c with
  | some x =>
    if x.watchdog.isSome then some (abortJob .timeout c (setCtx c (some { x with watchdog := none }) s)) else none
  | none => none

/-- A class left in AWAIT_ACK when Mover is held returns to NONE without rotation (R128). -/
def dropAwaitAck (s : State) (k : JobClass) : State :=
  if s.arbiter.service.get k = .awaitAck then setService k .none s else s

/-- The order in which a Mover hold takes the two contexts; the spec leaves it open (log entry 4). -/
def holdOrder (s : State) : List CtxId := if chosen 2 s = 0 then [.ctx0, .ctx1] else [.ctx1, .ctx0]

/-- Mover enters the hold set: its jobs end or ask for the abort of their pieces, and AWAIT_ACK services end (R128,
R145). -/
def holdMover (s : State) : State :=
  let order := holdOrder s
  let t := if occupiedContexts s = 2 then spendChoice s else s
  order.foldl (fun u c => abortJob .held c u) (allClasses.foldl dropAwaitAck t)

/-- A context's watchdog stops, keeping no remainder (R143). -/
def Context.stopWatchdog (x : Context) : Context := { x with watchdog := none }

/-- Mover leaves the hold set: "the watchdogs are stopped" (R145), those of contexts that still wait for their aborted
piece among them. -/
def releaseMover (s : State) : State :=
  { s with mover := { s.mover with
    ctx0 := s.mover.ctx0.map Context.stopWatchdog, ctx1 := s.mover.ctx1.map Context.stopWatchdog } }

/-! ### Completions -/

/-- The status of a COMPLETION message; none above 3. A failing offset at or above the count is read as count − 1 (R90,
R181). -/
def completionStatus (x : Piece) (status offset : Byte) : Option PieceStatus :=
  match status.toNat with
  | 0 => some .ok
  | 1 => some (.mediaError (min offset.toNat (x.count - 1)))
  | 2 => some .aborted
  | 3 => some .notReady
  | _ => none

/-- The completion of a piece of this port in SENT or ABORTING (R90); one that is SENT while the spindle is not RUNNING
is taken under R98. -/
def takeCompletion (p : Port) (x : Piece) (st : PieceStatus) (s : State) : State :=
  if x.state = .sent then
    if p = .disk ∧ s.spindle.state ≠ .running ∧ st = .aborted then takeCaughtAborted s x.id
    else completePiece p x.id st (setTimeouts p 0 s)
  else completePiece p x.id st s

/-- A back-end COMPLETION (R90): of a listed piece, of a withheld record, which returns to the pool, or discarded. A
PROBING or FAULTED port discards it (R94, R95). -/
def pieceCompletion (p : Port) (id status offset : Byte) (s : State) : Option State :=
  if (s.port p).status ≠ .ready then none
  else
    match findPiece id.toNat (s.port p).list with
    | some (x, _) =>
      if x.state = .waiting then none
      else (completionStatus x status offset).map (fun st => takeCompletion p x st s)
    | none =>
      if (s.port p).withheld.contains id.toNat ∧ status.toNat ≤ 3 then
        some (setPort p { s.port p with withheld := (s.port p).withheld.filter (· != id.toNat) } s)
      else none

/-! ### Probes -/

/-- The probe limit in ms (R95). -/
def probeLimit : Port → Nat
  | .flash => 2000
  | .disk => 10000

/-- A port enters PROBING by PORT RESTART (R95, R96, R111): its withheld records return to the pool. -/
def beginProbe (p : Port) (s : State) : State :=
  let probed := sendMessage p .probe
    (setPort p { s.port p with status := .probing, timeouts := 0, withheld := [], probeTimer := some (probeLimit p) } s)
  match p with
  | .flash => probed
  | .disk => { probed with spindle := { probed.spindle with
      state := .stopped, idleTimer := none, startTimer := none, retryTimer := none, restartPending := false } }

/-- An ENABLE or PORT RESTART that holds the head completes with its result (R96, R167). -/
def finishHold (op : HoldOp) (res : Nat) (s : State) : State :=
  match s.link.headHold with
  | some h => if h.op = op then answerGood h.tag (.fields [some res]) (endHold s) else s
  | none => s

/-- The waiting ENABLE acts at the probe's end, whether or not a link reset has discarded its record (R167). -/
def finishEnable (m : Mode) (s : State) : State :=
  let t : State := { s with sup := { s.sup with enableWaiting := false } }
  finishHold .enable m.code (if m = .online then enterOnline t else enterFlashLost t)

/-- The flash probe has ended READY (R166, R167). -/
def flashReady (s : State) : State :=
  if s.sup.enableWaiting then finishEnable .online s
  else if s.sup.mode = .flashLost then enterOnline s
  else s

/-- A READY reply ends a probe (R95, R111). -/
def probeReady (p : Port) (spindle : Byte) (s : State) : Option State :=
  if (s.port p).status ≠ .probing then none
  else
    let t := setPort p { s.port p with status := .ready, probeTimer := none } s
    some (finishHold (.portRestart p) PortStatus.ready.code (match p with
      | .flash => flashReady (sendWaiting .flash t)
      | .disk =>
        let u : State := { t with spindle := { t.spindle with state := .stopped, startFailed := false, retryTimer := none } }
        if spindle = 1#8 then enterRunning u else u))

/-- The probe timer expires (R95, R111): FAULTED, and the WAITING pieces complete with the forced status. -/
def probeTimeout (p : Port) (s : State) : Option State :=
  if (s.port p).probeTimer.isNone then none
  else
    let t := setFlag .portFault
      (forceWhere p (fun x => x.state == .waiting)
        (setPort p { s.port p with status := .faulted, probeTimer := none } s))
    some (finishHold (.portRestart p) PortStatus.faulted.code (match p with
      | .flash => if t.sup.enableWaiting then finishEnable .flashLost t else t
      | .disk => { t with spindle := { t.spindle with state := .stopped } }))

/-! ### HALT and the ends of spindle requests -/

/-- A HALT notice (R97, R110): the caught pieces stay SENT, untimed, and the spindle is STOPPED. -/
def haltDisk (s : State) : Option State :=
  if s.disk.status ≠ .ready then none
  else
    let caught := setFlag .haltNotice { s with disk := { s.disk with
      list := s.disk.list.map (fun x => if x.state = .sent then { x with timer := none } else x) } }
    some (match s.spindle.state with
      | .stopped => caught
      | .starting => failStart caught
      | .running | .stopping =>
        noteStopped .halted { caught with spindle := { caught.spindle with
          state := .stopped, idleTimer := none, startTimer := none, restartPending := false } })

/-- A START reply (R102, R103); taken while a START is outstanding, and discarded otherwise. -/
def startReply (status : Byte) (s : State) : Option State :=
  if s.spindle.state ≠ .starting then none
  else
    match status.toNat with
    | 0 => some (finishStart s)
    | 1 => some (failStart s)
    | _ => none

/-- A STOP reply (R105); taken while a STOP is outstanding, and discarded otherwise. -/
def stopReply (s : State) : Option State := if s.spindle.state = .stopping then some (finishStop s) else none

/-- The start timer expires: the START has failed (R103), or the STOP is taken as completed with SPIN_FAIL set (R105).
-/
def startTimerExpiry (s : State) : Option State :=
  if s.spindle.startTimer.isNone then none
  else
    match s.spindle.state with
    | .starting => some (failStart s)
    | .stopping => some (finishStop (setFlag .spinFail s))
    | .stopped | .running => none

/-- The retry-delay timer expires; the standing needs are examined at the event's end (R104). -/
def retryDelayExpiry (s : State) : Option State :=
  if s.spindle.retryTimer.isSome then some { s with spindle := { s.spindle with retryTimer := none } } else none

/-- The idle timer expires and STOP is sent (R105, R106). -/
def idleTimerExpiry (s : State) : Option State :=
  if s.spindle.idleTimer.isSome ∧ s.spindle.state = .running then some (sendStop s) else none

end Sys2Proof.Machine
end

