-- ==== Sys2Proof/Machine/Settle.lean ====
section
/-! DEFINITION. What every event judges at its end (log entry 8): disk needs and the pending SPIN DOWN (R100, R101, R109),
the Reclaimer's duties and hand (R148 to R150), the crossing detectors (R155), the idle and idle-flush timers (R106,
R149), the Pin Scanner's stall (R61), watchdogs behind a stopped spindle (R143), and the ends of SPIN UP and SPIN DOWN
(R108, R109). -/

namespace Sys2Proof.Machine

/-! ### Disk needs -/

/-- A disk piece that waits to be sent, or that a HALT has caught, is a need (R100). -/
def pieceNeedsDisk (s : State) : Bool :=
  s.disk.list.any (fun x => x.state == .waiting || (x.state == .sent && s.spindle.state != .running))

/-- The dirty-high need (R100). -/
def dirtyHighNeed (s : State) : Bool :=
  s.sup.mode == .online && s.spindle.state != .running && s.params.markDh ≤ s.map.dirtyCount

/-- A SPIN UP waits for its completion (R100, R108). -/
def spinUpWaits (s : State) : Bool := s.link.headHold.any (fun h => h.op == .spinUp)

/-- Some standing need holds (R100). -/
def standingNeed (s : State) : Bool := pieceNeedsDisk s || dirtyHighNeed s || spinUpWaits s

/-- The pending SPIN DOWN's STOP is sent when the disk has nothing to do (R109). -/
def judgeSpinDown (s : State) : State :=
  if s.spindle.pendingSpinDown ∧ s.spindle.state = .running ∧ s.disk.list = [] ∧ moverUsesDisk s = false then sendStop s
  else s

def judgeNeeds (s : State) : State := if standingNeed s then actOnNeed s else s

/-! ### Duties and hand -/

/-- A change of the duty set releases a WAITING or PAUSED hand (R152, R154). -/
def setDuties (d : Duties) (s : State) : State :=
  if d = s.reclaimer.duties then s else releaseHand { s with reclaimer := { s.reclaimer with duties := d } }

/-- Hysteresis of EVICT (R148). -/
def evictDuty (s : State) : Bool :=
  if s.map.freeCount < s.params.markL then true
  else if s.params.markH ≤ s.map.freeCount then false
  else s.reclaimer.duties.evict

/-- Hysteresis of FORCED (R148). -/
def forcedDuty (s : State) : Bool :=
  if s.params.markDh ≤ s.map.dirtyCount then true
  else if s.map.dirtyCount ≤ s.params.markDr then false
  else s.reclaimer.duties.forced

/-- IDLE goes off when the dirty count is 0, the spindle is not RUNNING or the part is not ONLINE (R149). -/
def idleDuty (s : State) : Bool :=
  s.reclaimer.duties.idle && s.map.dirtyCount != 0 && s.spindle.state == .running && s.sup.mode == .online

/-- EVICT and FORCED are judged while S is above 0 and Reclaimer is not held (R148, R156). -/
def judgeDuties (s : State) : State :=
  if s.held .reclaimer ∨ s.map.slotCount = 0 then s
  else setDuties ⟨evictDuty s, forcedDuty s, idleDuty s⟩ s

/-- A hand with no duty is STOPPED; one that nothing keeps moves when it may (R150). -/
def judgeHand (s : State) : State :=
  let c : HandCondition :=
    if s.reclaimer.duties.any = false then .stopped
    else
      match s.reclaimer.condition with
      | .waiting => .waiting
      | .paused => .paused
      | .moving | .stopped => if handMayMove s then .moving else .stopped
  { s with reclaimer := { s.reclaimer with condition := c } }

/-! ### Timers -/

/-- The idle condition (R106). -/
def idleCondition (s : State) : Bool :=
  s.spindle.state == .running && s.disk.list.isEmpty && !moverUsesDisk s && s.params.idleDelay != 0 &&
    !s.held .spindleAutoStop

/-- The idle timer runs, from the full delay, while the idle condition holds (R106). -/
def judgeIdleTimer (s : State) : State :=
  let timer := if idleCondition s then some (s.spindle.idleTimer.getD (s.params.idleDelay * 1000)) else none
  { s with spindle := { s.spindle with idleTimer := timer } }

/-- The idle-flush condition (R149). -/
def idleFlushCondition (s : State) : Bool :=
  s.sup.mode == .online && s.spindle.state == .running && s.disk.list.isEmpty && !moverUsesDisk s &&
    !s.held .reclaimer

/-- The idle-flush timer: loaded in the event in which the condition begins, stopped when it does not hold and while the
IDLE duty is on (R149). A condition that begins while IDLE is on loads nothing (log entry 10). -/
def judgeIdleFlush (before s : State) : State :=
  let timer :=
    if idleFlushCondition s ∧ s.reclaimer.duties.idle = false then
      if idleFlushCondition before then s.reclaimer.idleFlushTimer else some (s.params.idleFlushDelay * 10)
    else none
  { s with reclaimer := { s.reclaimer with idleFlushTimer := timer } }

/-- A watchdog stops while its job's disk piece waits behind a spindle that is not RUNNING (R143). -/
def stopWatchdog (s : State) (c : CtxId) : State :=
  if (s.ctx c).any (fun x => s.spindle.state != .running && waitsForDisk s x) then
    modifyCtx c (fun x => { x with watchdog := none }) s
  else s

def judgeWatchdogs (s : State) : State := [CtxId.ctx0, .ctx1].foldl stopWatchdog s

/-! ### SPIN UP and SPIN DOWN -/

/-- The result of SPIN UP and SPIN DOWN: spindle state and start-failed flag (R108, R178). -/
def spinResult (state : SpindleState) (s : State) : Result := .fields [some state.code, flagField s.spindle.startFailed]

/-- SPIN UP has reached its end: RUNNING, a start that failed, or a FAULTED Disk Port (R108). -/
def spinUpOver (s : State) : Bool :=
  s.spindle.state == .running || s.disk.status == .faulted ||
    (s.spindle.state == .stopped && s.spindle.retryTimer.isSome)

/-- Complete a SPIN UP or SPIN DOWN that the event has brought to its end (R108, R109, log entry 11). -/
def judgeSpin (s : State) : State :=
  match s.link.headHold with
  | some ⟨tag, .spinUp⟩ =>
    if spinUpOver s then answerGood tag (spinResult s.spindle.state s) (endHold s) else s
  | some ⟨tag, .spinDown .stopped⟩ => answerGood tag (spinResult s.spindle.state s) (endHold s)
  | some ⟨tag, .spinDown .halted⟩ => answerGood tag (spinResult .stopped s) (endHold s)
  | _ => s

/-! ### The end of an event -/

/-- Everything judged at the end of an event that has taken the part from `before` to `s`. -/
def settle (before s : State) : State :=
  judgeSpin (judgeWatchdogs (judgeStall (judgeIdleFlush before (judgeIdleTimer
    (judgeCrossings (judgeHand (judgeDuties (judgeNeeds (judgeSpinDown s)))))))))

/-- An event that is taken only when it can be: the state it leads to, settled, or no change (log entry 1). -/
def event (s : State) (t : Option State) : State :=
  match t with
  | some t => settle s t
  | none => s

end Sys2Proof.Machine
end

