-- ==== Sys2Proof/Machine/ParamStore.lean ====
section
/-! DEFINITION. The parameter store (R172): what a write of each identifier stores, with the clamping of the owning rule,
and what a read returns. The effects on running blocks that a write has at once stand beside it. -/

namespace Sys2Proof.Machine

/-- `v` clamped into `lo` to `hi`. -/
def clamp (lo hi v : Nat) : Nat := max lo (min v hi)

/-- Clamp the five marks in the order H, L, C, Dh, Dr, and then the pin limit (R58, R146). While S is 0 every mark is
0. -/
def Params.clampMarks (p : Params) (slots : Nat) : Params :=
  if slots = 0 then { p with markH := 0, markL := 0, markC := 0, markDh := 0, markDr := 0, pinLimit := 0 }
  else
    let h := clamp 2 slots p.markH
    let l := clamp 1 (h - 1) p.markL
    let dh := clamp 1 slots p.markDh
    { p with
      markH := h, markL := l, markC := min p.markC (l - 1), markDh := dh, markDr := min p.markDr (dh - 1)
      pinLimit := min p.pinLimit (slots - h) }

/-- The marks that SET GEOMETRY sets (9.1), with the pin limit clamped (R19). -/
def Params.geometryMarks (p : Params) (slots : Nat) : Params :=
  { p with
    markH := slots / 8, markL := slots / 16, markC := slots / 64, markDh := slots / 4, markDr := slots / 8
    pinLimit := min p.pinLimit (slots - slots / 8) }

/-- A parameter of the identifier table of R179. -/
inductive ParamId where
  | readWeight | writeWeight | tp | td | decayShift | confirmDepth | admitBar | streamThreshold | sweepCode
  | candidateMode | markH | markL | markC | markDh | markDr | pinLimit | idleFlushDelay | writeMode | flashLimit
  | diskLimit | startLimit | retryDelay | idleDelay | priority | pacing (k : JobClass) | watchdogCode
  deriving DecidableEq, Repr

/-- The identifier table (R179). -/
def ParamId.ofNumber : Nat → Option ParamId
  | 1 => some .readWeight
  | 2 => some .writeWeight
  | 3 => some .tp
  | 4 => some .td
  | 5 => some .decayShift
  | 6 => some .confirmDepth
  | 7 => some .admitBar
  | 8 => some .streamThreshold
  | 9 => some .sweepCode
  | 10 => some .candidateMode
  | 16 => some .markH
  | 17 => some .markL
  | 18 => some .markC
  | 19 => some .markDh
  | 20 => some .markDr
  | 21 => some .pinLimit
  | 22 => some .idleFlushDelay
  | 32 => some .writeMode
  | 33 => some .flashLimit
  | 34 => some .diskLimit
  | 35 => some .startLimit
  | 36 => some .retryDelay
  | 37 => some .idleDelay
  | 48 => some .priority
  | 49 => some (.pacing .flushUrgent)
  | 50 => some (.pacing .pinFill)
  | 51 => some (.pacing .directed)
  | 52 => some (.pacing .hotFill)
  | 53 => some (.pacing .flushIdle)
  | 54 => some .watchdogCode
  | _ => none

/-- "A written encoding that names none of the three is stored as ABSORB_WHEN_STOPPED" (R72). -/
def WriteMode.ofCode : Nat → WriteMode
  | 0 => .around
  | 2 => .absorbAlways
  | _ => .absorbWhenStopped

/-- "Any encoding other than SINGLE" is ROLLOVER (R46). -/
def CandidateMode.ofCode : Nat → CandidateMode
  | 0 => .single
  | _ => .rollover

/-- "An encoding that names neither mode is stored as FIXED" (R118). -/
def PriorityMode.ofCode : Nat → PriorityMode
  | 1 => .rotating
  | _ => .fixed

/-- "An encoding that names neither is stored as AUTO" (R125). -/
def Pacing.ofCode : Nat → Pacing
  | 1 => .ack
  | _ => .auto

/-- Clamp and store a written value under the owning rule (R46, R58, R72, R91, R107, R118, R125, R143, R146, R149). -/
def Params.store (p : Params) (slots : Nat) (id : ParamId) (v : Nat) : Params :=
  match id with
  | .readWeight => { p with readWeight := min v 15 }
  | .writeWeight => { p with writeWeight := min v 15 }
  | .tp => { p with tp := clamp 1 65535 v, td := min p.td (clamp 1 65535 v - 1) }
  | .td => { p with td := min v (p.tp - 1) }
  | .decayShift => { p with decayShift := clamp 1 8 v }
  | .confirmDepth => { p with confirmDepth := clamp 1 7 v }
  | .admitBar => { p with admitBar := min v 65535 }
  | .streamThreshold => { p with streamThreshold := clamp 64 65535 v }
  | .sweepCode => { p with sweepCode := min v 255 }
  | .candidateMode => { p with candidateMode := .ofCode v }
  | .markH => { p with markH := v }.clampMarks slots
  | .markL => { p with markL := v }.clampMarks slots
  | .markC => { p with markC := v }.clampMarks slots
  | .markDh => { p with markDh := v }.clampMarks slots
  | .markDr => { p with markDr := v }.clampMarks slots
  | .pinLimit => { p with pinLimit := min v (slots - p.markH) }
  | .idleFlushDelay => { p with idleFlushDelay := clamp 1 255 v }
  | .writeMode => { p with writeMode := .ofCode v }
  | .flashLimit => { p with flashLimit := clamp 1 255 v }
  | .diskLimit => { p with diskLimit := clamp 1 255 v }
  | .startLimit => { p with startLimit := clamp 1 60 v }
  | .retryDelay => { p with retryDelay := clamp 1 255 v }
  | .idleDelay => { p with idleDelay := min v 4095 }
  | .priority => { p with priority := .ofCode v }
  | .pacing k => { p with pacing := p.pacing.set k (.ofCode v) }
  | .watchdogCode => { p with watchdogCode := min v 255 }

/-- The stored value of a parameter, as a completion returns it (R172, R179). -/
def Params.read (p : Params) (id : ParamId) : Nat :=
  match id with
  | .readWeight => p.readWeight
  | .writeWeight => p.writeWeight
  | .tp => p.tp
  | .td => p.td
  | .decayShift => p.decayShift
  | .confirmDepth => p.confirmDepth
  | .admitBar => p.admitBar
  | .streamThreshold => p.streamThreshold
  | .sweepCode => p.sweepCode
  | .candidateMode => p.candidateMode.code
  | .markH => p.markH
  | .markL => p.markL
  | .markC => p.markC
  | .markDh => p.markDh
  | .markDr => p.markDr
  | .pinLimit => p.pinLimit
  | .idleFlushDelay => p.idleFlushDelay
  | .writeMode => p.writeMode.code
  | .flashLimit => p.flashLimit
  | .diskLimit => p.diskLimit
  | .startLimit => p.startLimit
  | .retryDelay => p.retryDelay
  | .idleDelay => p.idleDelay
  | .priority => p.priority.code
  | .pacing k => (p.pacing.get k).code
  | .watchdogCode => p.watchdogCode

/-- A stored sweep code restarts the tick timer while Heat is not held (R36, R47). -/
def restartTick (s : State) : State :=
  if s.held .heat then s
  else { s with heat := { s.heat with tick := some (tickPeriod s.params.sweepCode) } }

/-- A stored watchdog code of 0 stops the running watchdogs (R143). -/
def stopWatchdogs (s : State) : State :=
  if s.params.watchdogCode = 0 then
    modifyCtx .ctx0 (fun x => { x with watchdog := none }) (modifyCtx .ctx1 (fun x => { x with watchdog := none }) s)
  else s

/-- What a write does at once beside storing (R36, R44, R107, R143). `was` are the parameters before the write. A stored
idle delay makes a running idle timer start again, which the event's end does (R107). -/
def parameterEffect (was : Params) (id : ParamId) (s : State) : State :=
  match id with
  | .sweepCode => restartTick s
  | .candidateMode =>
    if was.candidateMode = .rollover ∧ s.params.candidateMode = .single then singleCandidate s else s
  | .idleDelay => { s with spindle := { s.spindle with idleTimer := none } }
  | .watchdogCode => stopWatchdogs s
  | _ => s

/-- Write a parameter (R172). -/
def storeParameter (id : ParamId) (v : Nat) (s : State) : State :=
  parameterEffect s.params id { s with params := s.params.store s.map.slotCount id v }

end Sys2Proof.Machine
end

