-- ==== Sys2Proof/Machine/Reclaimer.lean ====
section
/-! DEFINITION. The Reclaimer's examination (R150 to R154), the idle-flush expiry (R149) and the Reclaimer hold (R156). -/

namespace Sys2Proof.Machine

/-- The rows of the examination table (R151), rows 3 and 6 as one. -/
inductive Examination where
  | passOver
  | free
  | flushUrgent
  | clearReferenced
  | flushIdle
  deriving DecidableEq, Repr

/-- The first row that matches the slot and the duty set (R151). -/
def examine (d : Duties) (r : SlotRec) : Examination :=
  if r.state ≠ .resident ∨ r.queued ∨ r.inflight ≠ 0 then .passOver
  else if r.valid = 0#256 then .free
  else if r.isDirty ∧ d.forced then .flushUrgent
  else if r.pinned = false ∧ r.referenced ∧ d.evict then .clearReferenced
  else if r.pinned = false ∧ r.isDirty = false ∧ d.evict then .free
  else if r.isDirty ∧ d.evict then .flushUrgent
  else if r.isDirty ∧ d.idle then .flushIdle
  else .passOver

/-- IDLE goes off in an examination; the hand is not released by it, since it is MOVING (R149). -/
def idleOff (s : State) : State :=
  { s with reclaimer := { s.reclaimer with duties := { s.reclaimer.duties with idle := false } } }

/-- While IDLE is on, the revolution count rises at each examination, and at S the duty goes off (R149, R150). -/
def countRevolution (s : State) : State :=
  if s.reclaimer.duties.idle then
    let t : State := { s with reclaimer := { s.reclaimer with idleRevolution := s.reclaimer.idleRevolution + 1 } }
    if s.map.slotCount ≤ s.reclaimer.idleRevolution + 1 then idleOff t else t
  else s

/-- The hand advances by one, from S − 1 wrapping to 0 (R150). -/
def advanceHand (s : State) : State :=
  { s with reclaimer := { s.reclaimer with
    hand := if s.reclaimer.hand + 1 < s.map.slotCount then s.reclaimer.hand + 1 else 0 } }

/-- The no-progress count rises, or returns to 0 at progress (R150); at 2 × S the hand pauses with NO_EVICTABLE set and
the count returns to 0 (R154). A referenced flag that the pausing examination itself clears does not release this pause:
the spec does not say, and the model has only later events release it (log entry 21). -/
def countProgress (progress : Bool) (s : State) : State :=
  if progress then { s with reclaimer := { s.reclaimer with noProgress := 0 } }
  else if s.reclaimer.noProgress + 1 < 2 * s.map.slotCount then
    { s with reclaimer := { s.reclaimer with noProgress := s.reclaimer.noProgress + 1 } }
  else setFlag .noEvictable { s with reclaimer := { s.reclaimer with noProgress := 0, condition := .paused } }

/-- An examination that does not keep the hand in place: revolution, advance, progress (R150, log entry 21). -/
def passHand (progress : Bool) (s : State) : State := countProgress progress (advanceHand (countRevolution s))

/-- A flush posted to a queue that is not full; a duplicate is no progress (R151). -/
def postFlush (k : JobClass) (i : Nat) (s : State) : State :=
  passHand (postAccepted s k ⟨.flush, .slot i⟩) (post k ⟨.flush, .slot i⟩ s)

/-- The examination of the slot at the hand (R151, R152); taken while the hand is MOVING. -/
def examination (s : State) : Option State :=
  if s.reclaimer.condition ≠ .moving then none
  else
    let i := s.reclaimer.hand
    let r := s.slot i
    some (match examine s.reclaimer.duties r with
      | .passOver => passHand false s
      | .free => passHand true (putSlot i .free s)
      | .clearReferenced => passHand false (putSlot i { r with referenced := false } s)
      | .flushUrgent =>
        if queueFull s .flushUrgent then
          countRevolution { s with reclaimer := { s.reclaimer with condition := .waiting } }
        else postFlush .flushUrgent i s
      | .flushIdle =>
        if queueFull s .flushIdle then idleOff (countProgress false (countRevolution s)) else postFlush .flushIdle i s)

/-- The idle-flush timer expires: IDLE turns on if the Flush-Idle queue is empty and a slot is dirty (R149). -/
def idleFlushExpiry (s : State) : Option State :=
  if s.reclaimer.idleFlushTimer.isNone then none
  else
    let t : State := { s with reclaimer := { s.reclaimer with idleFlushTimer := none } }
    if queueDepth s .flushIdle = 0 ∧ s.map.dirtyCount ≠ 0 then
      let u := setDuties { t.reclaimer.duties with idle := true } t
      some { u with reclaimer := { u.reclaimer with idleRevolution := 0 } }
    else some t

/-- Reclaimer enters the hold set (R156). -/
def holdReclaimer (s : State) : State := { s with reclaimer := ⟨⟨false, false, false⟩, 0, .stopped, 0, 0, none⟩ }

end Sys2Proof.Machine
end

