-- ==== Sys2Proof/Machine/Link.lean ====
section
/-! DEFINITION. Power and link (POWER_ON, LINK_RESET, DESCRIPTOR_ARRIVAL), the taking of the head (R158, R159), and the
commands that take a media descriptor or one with an unknown code (R65, R66, R158). -/

namespace Sys2Proof.Machine

/-- What a meaning answers: always a next state (`Fault` is empty and no command is refused). -/
abbrev Answer := Host.Outcome State Fault Refusal

/-! ### Power and link -/

/-- POWER_ON (R175): every block in its power-on state. The free choice and the waiting commands are the model's own. -/
def execPowerOn (s : State) : Answer := .next { State.reset with choice := s.choice, pending := s.pending }

/-- A piece whose owner is a command becomes an orphan (R85). -/
def Piece.orphaned (x : Piece) : Piece :=
  match x.owner with
  | .command _ => { x with owner := .orphan }
  | .context _ | .orphan => x

def PortUnit.orphaned (u : PortUnit) : PortUnit := { u with list := u.list.map Piece.orphaned }

/-- LINK_RESET (R85, R163). -/
def execLinkReset (s : State) : Answer :=
  .next { s with
    link := { s.link with queue := [], headHold := none, ready := true }
    commands := []
    routing := []
    flash := s.flash.orphaned
    disk := s.disk.orphaned
    spindle := { s.spindle with pendingSpinDown := false } }

/-- DESCRIPTOR_ARRIVAL (R157): the descriptor joins the queue while the link is READY, and is not taken otherwise. -/
def execDescriptorArrival (d : Descriptor) (s : State) : Answer :=
  .next (if s.link.ready then
    { s with link := { s.link with
        queue := s.link.queue ++ [d], ready := decide (s.link.queue.length + 1 < Config.arrivalQueueSize) } }
  else s)

/-! ### Taking the head -/

/-- Take the head descriptor if it meets `f` and no head hold is in force (R158); the descriptor leaves the queue and
the link's flow control follows (R157). -/
def takeHead (f : Descriptor → Bool) (s : State) : Option (Descriptor × State) :=
  if s.link.headHold.isSome then none
  else
    match s.link.queue with
    | [] => none
    | d :: rest =>
      if f d then
        some (d, { s with link := { s.link with
          queue := rest, ready := decide (rest.length < Config.arrivalQueueSize) } })
      else none

/-- The descriptor's operation code is that of `op`. -/
def isOperation (op : Operation) (d : Descriptor) : Bool := operation d == some op

/-- Some Command Table record is held for a tag. -/
def tagHeld (t : Nat) (s : State) : Bool := (findCommand t s).isSome

/-- Answer a descriptor that takes no record (R65, R158, R159). -/
def answerUntaken (t : Nat) (st : Status) (lba : Option Nat) (s : State) : State :=
  sendCompletion ⟨t, st, lba, .none⟩ s

/-- The record a management operation takes: its tag and the operation as its kind (R159). -/
def managementRecord (t : Nat) (op : Operation) : CommandRec :=
  ⟨t, op, 0, 0, 0#64, false, 0, false, 0, [], [], .good, none⟩

/-- Take a management descriptor: TAG_CONFLICT if its tag is held, otherwise it takes a record and its owner acts
(R159). `f` narrows the descriptors of the operation to those of one command. -/
def manage (op : Operation) (f : Descriptor → Bool) (owner : Descriptor → Nat → State → State) (s : State) :
    Option State :=
  (takeHead (fun d => isOperation op d && f d) s).map (fun e =>
    if tagHeld (tagOf e.1) e.2 then answerUntaken (tagOf e.1) .tagConflict none e.2
    else owner e.1 (tagOf e.1) { e.2 with commands := e.2.commands ++ [managementRecord (tagOf e.1) op] })

/-- Every descriptor of the operation is the command's. -/
def anyDescriptor (_ : Descriptor) : Bool := true

/-! ### Media descriptors -/

/-- The kinds whose LBA and count are checked and routed (R65). -/
def hasSpan (op : Operation) : Bool := op != .sync

/-- The kinds that reach the Stream Detector and move host data (R27, R64). -/
def movesData (op : Operation) : Bool := op == .read || op == .write

/-- The record an accepted media descriptor takes (R66); a SYNC's LBA and count are unused (R64). -/
def mediaRecord (op : Operation) (d : Descriptor) (s : State) : CommandRec where
  tag := tagOf d
  kind := op
  lba := if hasSpan op then lbaOf d else 0
  count := if hasSpan op then countOf d else 0
  buffer := if movesData op then bufferRefOf d else 0#64
  streaming := movesData op && streamingFlag s (lbaOf d) (countOf d)
  cursor := if hasSpan op then lbaOf d else 0
  routingDone := false
  outstanding := 0
  fallbackList := []
  fallbackPieces := []
  status := .good
  errorLba := none

/-- Accept a media descriptor: record, Stream Detector, end of the routing order (R66). -/
def acceptMedia (op : Operation) (d : Descriptor) (s : State) : State :=
  let t := if movesData op then detectStream (lbaOf d) (countOf d) s else s
  { t with commands := t.commands ++ [mediaRecord op d s], routing := t.routing ++ [tagOf d] }

/-- The error LBA of ADDRESS_ERROR: the lowest LBA of the command at or beyond the disk (R65). -/
def addressErrorLba (d : Descriptor) (s : State) : Nat := if s.map.diskSize ≤ lbaOf d then lbaOf d else s.map.diskSize

/-- The command reaches beyond the disk (R65). -/
def beyondDisk (d : Descriptor) (s : State) : Bool := s.map.diskSize < lbaOf d + countOf d

/-- The table of R65. -/
def takeMedia (op : Operation) (d : Descriptor) (s : State) : State :=
  if tagHeld (tagOf d) s then answerUntaken (tagOf d) .tagConflict none s
  else if s.sup.mode = .loading then answerUntaken (tagOf d) .notReady none s
  else if hasSpan op ∧ beyondDisk d s then answerUntaken (tagOf d) .addressError (some (addressErrorLba d s)) s
  else acceptMedia op d s

/-- Take the head if it is a descriptor of the media operation. -/
def mediaCommand (op : Operation) (s : State) : State :=
  match takeHead (isOperation op) s with
  | some (d, t) => takeMedia op d t
  | none => s

/-- READ (R65, R66). -/
def execRead (s : State) : Answer := .next (mediaCommand .read s)

/-- WRITE (R65, R66). -/
def execWrite (s : State) : Answer := .next (mediaCommand .write s)

/-- TRIM (R65, R66). -/
def execTrim (s : State) : Answer := .next (mediaCommand .trim s)

/-- SYNC (R65, R66). -/
def execSync (s : State) : Answer := .next (mediaCommand .sync s)

/-- UNKNOWN_OPERATION (R158): answered at once, even when the tag is in use, and takes no record. -/
def execUnknownOperation (s : State) : Answer :=
  .next (match takeHead (fun d => (operation d).isNone) s with
    | some (d, t) => answerUntaken (tagOf d) .unknownOperation none t
    | none => s)

end Sys2Proof.Machine
end

