-- ==== Sys2Proof/Machine/Configure.lean ====
section
/-! DEFINITION. The commands that configure the part: SET_GEOMETRY, LOAD_SLOTS, SET_PARAMETERS_WRITE and _READ, LOAD_RANGE,
CLEAR_HEAT_EMPTY and _LEVEL, SET_MASK, SET_LOWEST, SET_EVENT_MASK, HOLD_BLOCKS, SET_CURSOR. -/

namespace Sys2Proof.Machine

/-! ### Geometry -/

/-- The checks of SET GEOMETRY on its fields (R19). -/
def geometryFits (slots disk : Nat) (s : State) : Bool :=
  64 ≤ slots && slots ≤ 65536 && 2 ^ 16 ≤ disk && disk ≤ 2 ^ 40 && disk % 256 == 0 &&
    s.ranges.all (fun e => e.all (fun r => r.last < disk))

/-- The cursor returns to index 0 when it names SLOTS (R19, R171). -/
def Cursor.rewindSlots (c : Cursor) : Cursor := if c.table = .slots then { c with index := 0 } else c

/-- The part takes a new geometry (R19, R150). -/
def takeGeometry (slots disk : Nat) (s : State) : State :=
  { s with
    map := ⟨slots, disk, List.replicate slots .free, [], slots, 0, 0⟩
    params := s.params.geometryMarks slots
    reclaimer := { s.reclaimer with hand := 0, noProgress := 0 }
    sup := { s.sup with cursor := s.sup.cursor.rewindSlots } }

/-- SET GEOMETRY as its owner takes it (R19). -/
def ownGeometry (d : Descriptor) (t : Nat) (s : State) : State :=
  let slots := headerField d 4 4
  let disk := headerField d 8 6
  if s.sup.mode ≠ .loading ∨ s.walk.isSome then refuse t .notPermitted s
  else if geometryFits slots disk s then answerGood t (.geometry slots disk) (takeGeometry slots disk s)
  else refuse t .badRecord s

/-- SET_GEOMETRY (R19). -/
def execSetGeometry (s : State) : Answer := .next (event s (manage .setGeometry anyDescriptor ownGeometry s))

/-! ### LOAD SLOTS -/

/-- The first check that a slot record fails, in the order of R20 (chunk-present: R176). -/
def loadRefusal (r : SlotLoad) (s : State) : Option Status :=
  if s.map.slotCount ≤ r.slot then some .badIndex
  else if r.stateCode ≠ 0 ∧ r.stateCode ≠ 1 then some .badRecord
  else if r.stateCode = 0 ∧ (r.chunkPresent ∨ r.valid ≠ 0#256 ∨ r.dirty ≠ 0#256) then some .badRecord
  else if r.stateCode = 1 ∧ (r.chunkPresent = false ∨ s.map.diskSize / 256 ≤ r.chunk) then some .badRecord
  else if r.stateCode = 1 ∧ r.valid = 0#256 then some .badRecord
  else if isSubset r.dirty r.valid = false then some .badRecord
  else if r.stateCode = 1 ∧ (s.map.slotOf r.chunk).any (· != r.slot) then some .duplicateChunk
  else none

/-- The slot record that a LOAD SLOTS record writes (R21). -/
def loadedSlot (r : SlotLoad) (s : State) : SlotRec :=
  if r.stateCode = 0 then .free
  else { SlotRec.free with
    state := .resident, chunk := some r.chunk, valid := r.valid, dirty := r.dirty, pinned := chunkIn s .pin r.chunk }

/-- Check and apply the records in order, each against the map as those before it leave it: the status and the
position of the first that fails, or the state with all of them applied (R20, R21). -/
def loadRecords : List SlotLoad → Nat → State → (Status × Nat) ⊕ State
  | [], _, s => .inr s
  | r :: rest, k, s =>
    match loadRefusal r s with
    | some st => .inl (st, k)
    | none => loadRecords rest (k + 1) (putSlot r.slot (loadedSlot r s) s)

/-- LOAD SLOTS as its owner takes it: applied as a whole or not at all (R20). -/
def ownLoadSlots (d : Descriptor) (t : Nat) (s : State) : State :=
  let n := headerField d 4 1
  if s.sup.mode ≠ .loading then refuse t .notPermitted s
  else if n = 0 ∨ 4 < n then answer t .badRecord none (.fields [some 0]) s
  else
    match loadRecords (slotLoads d n) 0 s with
    | .inl (st, k) => answer t st none (.fields [some k]) s
    | .inr u => answerGood t .none u

/-- LOAD_SLOTS (R20, R21). -/
def execLoadSlots (s : State) : Answer := .next (event s (manage .loadSlots anyDescriptor ownLoadSlots s))

/-! ### Parameters -/

/-- The parameter that a SET PARAMETERS descriptor names (R177, R179). -/
def namedParameter (d : Descriptor) : Option ParamId := ParamId.ofNumber (headerField d 4 2)

/-- SET PARAMETERS with WRITE access (R172): the stored value is the result. -/
def ownParameterWrite (d : Descriptor) (t : Nat) (s : State) : State :=
  match namedParameter d with
  | some id =>
    let u := storeParameter id (headerField d 8 4) s
    answerGood t (.fields [some (u.params.read id)]) u
  | none => refuse t .badIndex s

/-- SET PARAMETERS with READ access (R172). -/
def ownParameterRead (d : Descriptor) (t : Nat) (s : State) : State :=
  match namedParameter d with
  | some id => answerGood t (.fields [some (s.params.read id)]) s
  | none => refuse t .badIndex s

/-- SET_PARAMETERS_WRITE (R172). -/
def execSetParametersWrite (s : State) : Answer :=
  .next (event s (manage .setParameters isWriteAccess ownParameterWrite s))

/-- SET_PARAMETERS_READ (R172). -/
def execSetParametersRead (s : State) : Answer :=
  .next ((manage .setParameters (fun d => !isWriteAccess d) ownParameterRead s).getD s)

/-! ### LOAD RANGE -/

/-- The nearest non-empty entry at an index below `i`. -/
def rangeBelow (ranges : List (Option RangeEntry)) (i : Nat) : Option RangeEntry :=
  (ranges.take i).reverse.findSome? id

/-- The nearest non-empty entry at an index above `i`. -/
def rangeAbove (ranges : List (Option RangeEntry)) (i : Nat) : Option RangeEntry := (ranges.drop (i + 1)).findSome? id

/-- The first check that a range record for entry `i` fails, of checks 3 to 6 of R53. -/
def rangeRefusal (i : Nat) (e : RangeEntry) (s : State) : Option Status :=
  if e.last < e.first then some .badRecord
  else if s.map.diskSize ≤ e.last then some .badRecord
  else if (rangeBelow s.ranges i).any (fun b => e.first ≤ b.last) then some .order
  else if (rangeAbove s.ranges i).any (fun a => a.first ≤ e.last) then some .order
  else none

/-- An accepted load is stored, the Pin Scanner goes IDLE and the retag walk begins at slot 0; the descriptor holds the
head until the walk's end (R54). -/
def storeRange (i : Nat) (e : Option RangeEntry) (t : Nat) (s : State) : State :=
  placeHold t .loadRange (idleScanner { s with ranges := s.ranges.set i e, walk := some 0 })

/-- LOAD RANGE as its owner takes it (R53, R54). -/
def ownLoadRange (d : Descriptor) (t : Nat) (s : State) : State :=
  let i := headerField d 4 1
  let code := headerField d 5 1
  if s.sup.mode = .flashLost then refuse t .notPermitted s
  else if Config.rangeEntries ≤ i then refuse t .badIndex s
  else if code = 0 then storeRange i none t s
  else
    match PlacementClass.ofCode code with
    | none => refuse t .badRecord s
    | some k =>
      let e : RangeEntry := ⟨payloadField d 0 6, payloadField d 8 6, k⟩
      match rangeRefusal i e s with
      | some st => refuse t st s
      | none => storeRange i (some e) t s

/-- LOAD_RANGE (R53, R54). -/
def execLoadRange (s : State) : Answer := .next (event s (manage .loadRange anyDescriptor ownLoadRange s))

/-! ### CLEAR HEAT -/

/-- The option byte of CLEAR HEAT (R177). -/
def clearOption (d : Descriptor) : Nat := headerField d 4 1

/-- CLEAR HEAT EMPTY (R45); an option that is neither EMPTY nor LEVEL is refused (R176). -/
def ownClearEmpty (d : Descriptor) (t : Nat) (s : State) : State :=
  if clearOption d = 0 then answerGood t (.fields [some (clearHeat s).heat.usedCount]) (clearHeat s)
  else refuse t .badRecord s

/-- CLEAR HEAT LEVEL (R45); an option that is neither EMPTY nor LEVEL is refused (R176). -/
def ownClearLevel (d : Descriptor) (t : Nat) (s : State) : State :=
  if clearOption d = 1 then
    let u := levelHeat (headerField d 8 4) s
    answerGood t (.fields [some u.heat.usedCount]) u
  else refuse t .badRecord s

/-- CLEAR_HEAT_EMPTY (R45); a bad option is taken by either of the two rows (log entry 22). -/
def execClearHeatEmpty (s : State) : Answer :=
  .next ((manage .clearHeat (fun d => clearOption d != 1) ownClearEmpty s).getD s)

/-- CLEAR_HEAT_LEVEL (R45); a bad option is taken by either of the two rows (log entry 22). -/
def execClearHeatLevel (s : State) : Answer :=
  .next ((manage .clearHeat (fun d => clearOption d != 0) ownClearLevel s).getD s)

/-! ### Masks, lowest class, holds, cursor -/

/-- SET LOWEST (R118). -/
def ownSetLowest (d : Descriptor) (t : Nat) (s : State) : State :=
  match JobClass.ofNumber (headerField d 4 1) with
  | some k => answerGood t (.fields [some k.number]) { s with arbiter := { s.arbiter with lowest := k } }
  | none => refuse t .badIndex s

/-- SET_LOWEST (R118). -/
def execSetLowest (s : State) : Answer := .next ((manage .setLowest anyDescriptor ownSetLowest s).getD s)

/-- SET MASK (R119); "Encodings for class numbers above 4 are ignored". -/
def ownSetMask (d : Descriptor) (t : Nat) (s : State) : State :=
  let m := BitVec.ofNat 5 (headerField d 4 1)
  answerGood t (.fields [some m.toNat]) { s with arbiter := { s.arbiter with mask := m } }

/-- SET_MASK (R119). -/
def execSetMask (s : State) : Answer := .next ((manage .setMask anyDescriptor ownSetMask s).getD s)

/-- SET EVENT MASK (R168): the notice line is driven anew. -/
def ownSetEventMask (d : Descriptor) (t : Nat) (s : State) : State :=
  let m := BitVec.ofNat 12 (headerField d 4 2)
  answerGood t (.fields [some m.toNat]) { s with sup := s.sup.drive s.sup.flags m }

/-- SET_EVENT_MASK (R168). -/
def execSetEventMask (s : State) : Answer := .next ((manage .setEventMask anyDescriptor ownSetEventMask s).getD s)

/-- The effect of HOLD BLOCKS on one block, from its membership of the old and the new set (R174). -/
def changeHold (b : Block) (was : BitVec 5) (enter leave : State → State) (s : State) : State :=
  if was.getLsbD b.bit = s.held b then s else if s.held b then enter s else leave s

/-- The new hold set is stored and each block that enters or leaves it acts (R174): Heat by R49, PinScanner by R63,
Reclaimer by R156, Mover by R145. SpindleAutoStop, and the release of Reclaimer, act by what the event's end judges
(R112, R156). The spec gives no order among blocks that enter or leave in one HOLD BLOCKS: this one, Heat, PinScanner,
Reclaimer, Mover, is the model's choice (DESIGN CHOICE, log entry 31). -/
def takeHolds (m : BitVec 5) (s : State) : State :=
  let was := s.sup.holds
  let stored : State := { s with sup := { s.sup with holds := m } }
  changeHold .mover was holdMover releaseMover
    (changeHold .reclaimer was holdReclaimer id
      (changeHold .pinScanner was idleScanner restartScanner
        (changeHold .heat was holdHeat releaseHeat stored)))

/-- HOLD BLOCKS (R174); "Encodings beyond the five are ignored". -/
def ownHoldBlocks (d : Descriptor) (t : Nat) (s : State) : State :=
  let m := BitVec.ofNat 5 (headerField d 4 1)
  answerGood t (.fields [some m.toNat]) (takeHolds m s)

/-- HOLD_BLOCKS (R174). -/
def execHoldBlocks (s : State) : Answer := .next (event s (manage .holdBlocks anyDescriptor ownHoldBlocks s))

/-- Records of a table that the cursor can name (R171). -/
def tableSize (s : State) : CursorTable → Nat
  | .slots => s.map.slotCount
  | .heat => Config.heatEntries
  | .ranges => Config.rangeEntries

/-- SET CURSOR (R171). -/
def ownSetCursor (d : Descriptor) (t : Nat) (s : State) : State :=
  match CursorTable.ofCode (headerField d 4 1) with
  | none => refuse t .badIndex s
  | some table =>
    let i := headerField d 8 4
    if tableSize s table ≤ i then refuse t .badIndex s
    else answerGood t (.fields [some table.code, some i])
      { s with sup := { s.sup with cursor := ⟨table, i, d.header.getLsbD 40⟩ } }

/-- SET_CURSOR (R171). -/
def execSetCursor (s : State) : Answer := .next ((manage .setCursor anyDescriptor ownSetCursor s).getD s)

end Sys2Proof.Machine
end

