-- ==== Sys2Proof/Machine/Steer.lean ====
section
/-! DEFINITION. The commands that steer and observe the part: POST_JOB, ACK_JOB, SPIN_UP, SPIN_DOWN, PORT_RESTART, ENABLE, and
IDENTIFY, POLL_ARBITER, READ_JOB_STATUS, READ_STATUS, READ_EVENTS, READ_NEXT. -/

namespace Sys2Proof.Machine

/-! ### Jobs -/

/-- The first check that a POST JOB fails, of checks 2 to 6 of R116. -/
def postRefusal (a : JobAction) (c : Nat) (s : State) : Option Status :=
  if s.map.diskSize / 256 ≤ c then some .badRecord
  else if a ≠ .fill ∧ (s.map.slotOf c).isNone then some .notResident
  else if a = .evict ∧ (s.map.bound c).any (fun e => e.2.pinned) then some .pinned
  else if isDuplicate s ⟨a, .chunk c⟩ then some .alreadyQueued
  else if queueFull s .directed then some .queueFull
  else none

/-- POST JOB as its owner takes it (R116): the result is the Directed queue's depth after the posting. -/
def ownPostJob (d : Descriptor) (t : Nat) (s : State) : State :=
  if s.sup.mode = .loading then refuse t .notPermitted s
  else
    match JobAction.ofCode (headerField d 4 1) with
    | none => refuse t .badRecord s
    | some a =>
      match postRefusal a (headerField d 8 4) s with
      | some st => refuse t st s
      | none =>
        let u := enqueue .directed ⟨a, .chunk (headerField d 8 4)⟩ s
        answerGood t (.fields [some (queueDepth u .directed)]) u

/-- POST_JOB (R116). -/
def execPostJob (s : State) : Answer := .next (event s (manage .postJob anyDescriptor ownPostJob s))

/-- ACK JOB as its owner takes it (R126). -/
def ownAckJob (d : Descriptor) (t : Nat) (s : State) : State :=
  match JobClass.ofNumber (headerField d 4 1) with
  | none => refuse t .badIndex s
  | some k =>
    if s.arbiter.service.get k = .awaitAck then
      answerGood t (.fields [some (queueDepth s k)]) (endServiceOf k s)
    else refuse t .notPermitted s

/-- ACK_JOB (R126). -/
def execAckJob (s : State) : Answer := .next ((manage .ackJob anyDescriptor ownAckJob s).getD s)

/-! ### Spindle, ports, mode -/

/-- SPIN UP holds the head and is a standing need; the event's end acts on it or completes it at once (R108). -/
def ownSpinUp (_ : Descriptor) (t : Nat) (s : State) : State := placeHold t .spinUp s

/-- SPIN_UP (R108). -/
def execSpinUp (s : State) : Answer := .next (event s (manage .spinUp anyDescriptor ownSpinUp s))

/-- SPIN DOWN as its owner takes it (R109): at once when STOPPED; otherwise it holds the head, and is pending unless a
STOP is already outstanding. The event's end sends its STOP when the disk has nothing to do. -/
def ownSpinDown (_ : Descriptor) (t : Nat) (s : State) : State :=
  match s.spindle.state with
  | .stopped => answerGood t (spinResult .stopped s) s
  | .stopping => placeHold t (.spinDown .waiting) s
  | .starting | .running =>
    placeHold t (.spinDown .waiting) { s with spindle := { s.spindle with pendingSpinDown := true } }

/-- SPIN_DOWN (R109). -/
def execSpinDown (s : State) : Answer := .next (event s (manage .spinDown anyDescriptor ownSpinDown s))

/-- The port a PORT RESTART names (R177). -/
def Port.ofCode : Nat → Option Port
  | 0 => some .flash
  | 1 => some .disk
  | _ => none

/-- PORT RESTART as its owner takes it (R96). -/
def ownPortRestart (d : Descriptor) (t : Nat) (s : State) : State :=
  match Port.ofCode (headerField d 4 1) with
  | none => refuse t .badIndex s
  | some p =>
    if (s.port p).status = .faulted then placeHold t (.portRestart p) (beginProbe p s)
    else refuse t .notPermitted s

/-- PORT_RESTART (R96). -/
def execPortRestart (s : State) : Answer := .next (event s (manage .portRestart anyDescriptor ownPortRestart s))

/-- ENABLE as its owner takes it (R167). -/
def ownEnable (_ : Descriptor) (t : Nat) (s : State) : State :=
  if s.sup.mode ≠ .loading ∨ s.map.slotCount = 0 then refuse t .notPermitted s
  else
    match s.flash.status with
    | .ready => answerGood t (.fields [some Mode.online.code]) (enterOnline s)
    | .faulted => answerGood t (.fields [some Mode.flashLost.code]) (enterFlashLost s)
    | .probing => placeHold t .enable { s with sup := { s.sup with enableWaiting := true } }

/-- ENABLE (R167). -/
def execEnable (s : State) : Answer := .next (event s (manage .enable anyDescriptor ownEnable s))

/-! ### Reports -/

/-- IDENTIFY (R173). -/
def ownIdentify (_ : Descriptor) (t : Nat) (s : State) : State := answerGood t identity s

/-- IDENTIFY (R173). -/
def execIdentify (s : State) : Answer := .next ((manage .identify anyDescriptor ownIdentify s).getD s)

/-- POLL ARBITER (R127). -/
def ownPollArbiter (_ : Descriptor) (t : Nat) (s : State) : State := answerGood t (arbiterReport s) s

/-- POLL_ARBITER (R127). -/
def execPollArbiter (s : State) : Answer := .next ((manage .pollArbiter anyDescriptor ownPollArbiter s).getD s)

/-- READ JOB STATUS (R142). -/
def ownReadJobStatus (_ : Descriptor) (t : Nat) (s : State) : State := answerGood t (jobReport s) s

/-- READ_JOB_STATUS (R142). -/
def execReadJobStatus (s : State) : Answer := .next ((manage .readJobStatus anyDescriptor ownReadJobStatus s).getD s)

/-- Each detector's reported side takes its current side (R155, R170). -/
def Supervision.report (u : Supervision) : Supervision :=
  { u with freeReported := u.freeBelow, dirtyReported := u.dirtyAbove }

/-- READ STATUS (R170): the report, and then the reported sides. -/
def ownReadStatus (_ : Descriptor) (t : Nat) (s : State) : State :=
  answerGood t (statusReport s) { s with sup := s.sup.report }

/-- READ_STATUS (R170). -/
def execReadStatus (s : State) : Answer := .next ((manage .readStatus anyDescriptor ownReadStatus s).getD s)

/-- READ EVENTS (R169): the set flags are returned and cleared, and the notice line is driven anew. -/
def ownReadEvents (_ : Descriptor) (t : Nat) (s : State) : State :=
  answerGood t (.fields [some s.sup.flags.toNat]) { s with sup := s.sup.drive 0#12 s.sup.mask }

/-- READ_EVENTS (R169). -/
def execReadEvents (s : State) : Answer := .next ((manage .readEvents anyDescriptor ownReadEvents s).getD s)

/-- The record at the cursor as READ NEXT returns it (R22, R48, R51, R171). -/
def cursorRecord (s : State) : Result :=
  let i := s.sup.cursor.index
  match s.sup.cursor.table with
  | .slots => .slotRecord i (s.slot i)
  | .heat => .heatEntry i (s.heatEntry i) (s.heat.victim == some i)
  | .ranges => .rangeRecord i ((s.ranges[i]?).join)

/-- The cursor after a READ NEXT: advanced by one and wrapped, or kept (R171). -/
def Cursor.advanced (c : Cursor) (size : Nat) : Cursor :=
  if c.autoIncrement then { c with index := if c.index + 1 < size then c.index + 1 else 0 } else c

/-- READ NEXT (R171). -/
def ownReadNext (_ : Descriptor) (t : Nat) (s : State) : State :=
  let size := tableSize s s.sup.cursor.table
  if size ≤ s.sup.cursor.index then refuse t .badIndex s
  else answerGood t (cursorRecord s) { s with sup := { s.sup with cursor := s.sup.cursor.advanced size } }

/-- READ_NEXT (R171). -/
def execReadNext (s : State) : Answer := .next ((manage .readNext anyDescriptor ownReadNext s).getD s)

end Sys2Proof.Machine
end

