-- ==== Sys2Proof/Machine/Events.lean ====
section
/-! DEFINITION. The events of the part's own blocks, of the back-ends and of the timers: routing, Heat Unit, retag walk, Pin
Scanner, Job Arbiter and Mover, port messages, port and spindle timers, Reclaimer. An event that cannot be taken leaves
the state unchanged (log entry 1). -/

namespace Sys2Proof.Machine

/-! ### Router -/

/-- ROUTE_PORTION (R67 to R73, R84); the operand is the order of the region's access and the portion's changes (R34). -/
def execRoutePortion (order : AccessOrder) (s : State) : Answer := .next (event s (routePortion order s))

/-- ROUTE_SYNC (R74). -/
def execRouteSync (s : State) : Answer := .next (event s (routeSync s))

/-- FALLBACK_PIECE_MAKE (R80). -/
def execFallbackPieceMake (s : State) : Answer := .next (event s (fallbackPieceMake s))

/-! ### Heat Unit -/

/-- The Heat Unit takes the oldest reported access; none is scored while Heat is held (R31, R49). -/
def oldestAccess (s : State) : State :=
  match s.accesses with
  | [] => s
  | a :: rest =>
    let t : State := { s with accesses := rest }
    if s.held .heat then t else takeAccess a t

/-- ACCESS (R31 to R34). -/
def execAccess (s : State) : Answer := .next (oldestAccess s)

/-- SWEEP_VISIT (R36 to R43), the tick timer's expiry. -/
def execSweepVisit (s : State) : Answer := .next (if s.heat.tick.isSome then sweep s else s)

/-! ### Retag walk and Pin Scanner -/

/-- The walk's visit of slot `i` (R55). -/
def retag (i : Nat) (s : State) : State :=
  let r := s.slot i
  match r.state, r.chunk with
  | .free, _ | _, none => s
  | _, some c =>
    putSlot i { r with pinned := chunkIn s .pin c, referenced := r.referenced && !chunkIn s .bypass c } s

/-- The walk ends (R57): LOAD RANGE completes, PIN_OVER is set at or above P, and a restart is requested. -/
def endWalk (s : State) : State :=
  let t := finishHold .loadRange s.map.pinnedCount { s with walk := none }
  restartScanner (if s.params.pinLimit ≤ s.map.pinnedCount then setFlag .pinOver t else t)

/-- One visit of the retag walk, which ends in its visit of slot S − 1 (R55, R57, log entry 26). -/
def retagVisit (s : State) : Option State :=
  s.walk.map (fun i =>
    let t := retag i s
    if i + 1 < s.map.slotCount then { t with walk := some (i + 1) } else endWalk t)

/-- RETAG_VISIT (R55, R57). -/
def execRetagVisit (s : State) : Answer := .next (event s (retagVisit s))

/-- PIN_SCANNER_EXAMINATION (R60 to R62). -/
def execPinScannerExamination (s : State) : Answer := .next (scanChunk s)

/-! ### Job Arbiter and Mover -/

/-- GRANT (R121 to R123): the class that a grant taken now serves. -/
def execGrant (s : State) : Answer :=
  .next (event s ((nextGrant s).map (fun k => runMover moverBound (grant k s))))

/-- A context in pool wait may issue: it is ACTIVE and a record is free (R131). -/
def mayRetry (c : CtxId) (s : State) : Bool :=
  (s.ctx c).any (fun x => x.poolWait && serviceStateOf x.cls s == some .active) && freeRecords s != 0

/-- MOVER_ISSUE_RETRY (R131): the piece is computed afresh. -/
def execMoverIssueRetry (c : CtxId) (s : State) : Answer :=
  .next (event s (if mayRetry c s then some (runMover moverBound (advance c s)) else none))

/-- WATCHDOG_EXPIRY (R144). -/
def execWatchdogExpiry (c : CtxId) (s : State) : Answer := .next (event s (watchdogExpiry c s))

/-! ### Port messages and port timers -/

/-- PIECE_COMPLETION (R90, R98, R181). -/
def execPieceCompletion (p : Port) (id status offset : Byte) (s : State) : Answer :=
  .next (event s (pieceCompletion p id status offset s))

/-- ABORT_FOUND_NOTHING (R92): "the port discards that reply". -/
def execAbortFoundNothing (_p : Port) (_id : Byte) (s : State) : Answer := .next s

/-- PIECE_TIMEOUT (R92). -/
def execPieceTimeout (p : Port) (id : Byte) (s : State) : Answer := .next (event s (pieceTimeout p id.toNat s))

/-- PROBE_READY (R95, R111). -/
def execProbeReady (p : Port) (spindle : Byte) (s : State) : Answer := .next (event s (probeReady p spindle s))

/-- PROBE_TIMEOUT (R95, R111). -/
def execProbeTimeout (p : Port) (s : State) : Answer := .next (event s (probeTimeout p s))

/-- HALT (R97, R110). -/
def execHalt (s : State) : Answer := .next (event s (haltDisk s))

/-- START_REPLY (R102, R103). -/
def execStartReply (status : Byte) (s : State) : Answer := .next (event s (startReply status s))

/-- STOP_REPLY (R105). -/
def execStopReply (s : State) : Answer := .next (event s (stopReply s))

/-- UNKNOWN_PORT_MESSAGE (R181): "A message it discards changes nothing". -/
def execUnknownPortMessage (_p : Port) (_message : BitVec 192) (s : State) : Answer := .next s

/-! ### Spindle timers -/

/-- START_TIMER_EXPIRY (R103, R105). -/
def execStartTimerExpiry (s : State) : Answer := .next (event s (startTimerExpiry s))

/-- RETRY_DELAY_EXPIRY (R104). -/
def execRetryDelayExpiry (s : State) : Answer := .next (event s (retryDelayExpiry s))

/-- IDLE_TIMER_EXPIRY (R106). -/
def execIdleTimerExpiry (s : State) : Answer := .next (event s (idleTimerExpiry s))

/-! ### Reclaimer -/

/-- RECLAIMER_EXAMINATION (R150 to R154). -/
def execReclaimerExamination (s : State) : Answer := .next (event s (examination s))

/-- IDLE_FLUSH_EXPIRY (R149). -/
def execIdleFlushExpiry (s : State) : Answer := .next (event s (idleFlushExpiry s))

end Sys2Proof.Machine
end

