-- ==== Sys2Proof/Machine/Dispatch.lean ====
section
/-! DEFINITION. The meaning of every command: one arm for each constructor of `Instr`, each a direct call of the
command's own meaning. -/

namespace Sys2Proof.Machine

def exec (i : Instr) (s : State) : Host.Outcome State Fault Refusal :=
  match i with
  | .powerOn => Sys2Proof.Machine.execPowerOn s
  | .linkReset => Sys2Proof.Machine.execLinkReset s
  | .descriptorArrival d => Sys2Proof.Machine.execDescriptorArrival d s
  | .read => Sys2Proof.Machine.execRead s
  | .write => Sys2Proof.Machine.execWrite s
  | .trim => Sys2Proof.Machine.execTrim s
  | .sync => Sys2Proof.Machine.execSync s
  | .unknownOperation => Sys2Proof.Machine.execUnknownOperation s
  | .identify => Sys2Proof.Machine.execIdentify s
  | .setGeometry => Sys2Proof.Machine.execSetGeometry s
  | .loadSlots => Sys2Proof.Machine.execLoadSlots s
  | .setParametersWrite => Sys2Proof.Machine.execSetParametersWrite s
  | .setParametersRead => Sys2Proof.Machine.execSetParametersRead s
  | .loadRange => Sys2Proof.Machine.execLoadRange s
  | .clearHeatEmpty => Sys2Proof.Machine.execClearHeatEmpty s
  | .clearHeatLevel => Sys2Proof.Machine.execClearHeatLevel s
  | .postJob => Sys2Proof.Machine.execPostJob s
  | .ackJob => Sys2Proof.Machine.execAckJob s
  | .setLowest => Sys2Proof.Machine.execSetLowest s
  | .setMask => Sys2Proof.Machine.execSetMask s
  | .pollArbiter => Sys2Proof.Machine.execPollArbiter s
  | .readJobStatus => Sys2Proof.Machine.execReadJobStatus s
  | .spinUp => Sys2Proof.Machine.execSpinUp s
  | .spinDown => Sys2Proof.Machine.execSpinDown s
  | .portRestart => Sys2Proof.Machine.execPortRestart s
  | .readStatus => Sys2Proof.Machine.execReadStatus s
  | .readEvents => Sys2Proof.Machine.execReadEvents s
  | .setEventMask => Sys2Proof.Machine.execSetEventMask s
  | .holdBlocks => Sys2Proof.Machine.execHoldBlocks s
  | .setCursor => Sys2Proof.Machine.execSetCursor s
  | .readNext => Sys2Proof.Machine.execReadNext s
  | .enable => Sys2Proof.Machine.execEnable s
  | .routePortion order => Sys2Proof.Machine.execRoutePortion order s
  | .routeSync => Sys2Proof.Machine.execRouteSync s
  | .fallbackPieceMake => Sys2Proof.Machine.execFallbackPieceMake s
  | .access => Sys2Proof.Machine.execAccess s
  | .sweepVisit => Sys2Proof.Machine.execSweepVisit s
  | .retagVisit => Sys2Proof.Machine.execRetagVisit s
  | .pinScannerExamination => Sys2Proof.Machine.execPinScannerExamination s
  | .grant => Sys2Proof.Machine.execGrant s
  | .moverIssueRetry ctx => Sys2Proof.Machine.execMoverIssueRetry ctx s
  | .watchdogExpiry ctx => Sys2Proof.Machine.execWatchdogExpiry ctx s
  | .pieceCompletion port id status offset => Sys2Proof.Machine.execPieceCompletion port id status offset s
  | .abortFoundNothing port id => Sys2Proof.Machine.execAbortFoundNothing port id s
  | .pieceTimeout port id => Sys2Proof.Machine.execPieceTimeout port id s
  | .probeReady port spindle => Sys2Proof.Machine.execProbeReady port spindle s
  | .probeTimeout port => Sys2Proof.Machine.execProbeTimeout port s
  | .halt => Sys2Proof.Machine.execHalt s
  | .startReply status => Sys2Proof.Machine.execStartReply status s
  | .stopReply => Sys2Proof.Machine.execStopReply s
  | .startTimerExpiry => Sys2Proof.Machine.execStartTimerExpiry s
  | .retryDelayExpiry => Sys2Proof.Machine.execRetryDelayExpiry s
  | .idleTimerExpiry => Sys2Proof.Machine.execIdleTimerExpiry s
  | .reclaimerExamination => Sys2Proof.Machine.execReclaimerExamination s
  | .idleFlushExpiry => Sys2Proof.Machine.execIdleFlushExpiry s
  | .unknownPortMessage port message => Sys2Proof.Machine.execUnknownPortMessage port message s

end Sys2Proof.Machine
end

