-- ==== Sys2Proof/Machine/Step.lean ====
section
/-! DEFINITION. One step of the block: take the command at the front of the queue, or idle on an empty queue (log
entry 2). -/

namespace Sys2Proof.Machine

/-- Take the command at the front of the queue and run its meaning with the queue's rest; idle on an empty queue. -/
def step (s : State) : Host.Outcome State Fault Refusal :=
  match s.pending with
  | [] => .next s
  | c :: rest => exec c { s with pending := rest }

/-- Put the command that a word spells at the front of the queue; the table of commands gives no bits, so no word spells
one (log entry 30). -/
def State.withFetchWord (s : State) (nbits w : Nat) : State :=
  match decodeTableWord nbits w with
  | some c => { s with pending := c :: s.pending }
  | none => s

end Sys2Proof.Machine
end

