-- ==== Sys2Proof/Safety.lean ====
section
/-! DEFINITION. What counts as a safe run, and the invariants that claims use. A safe step stops with no fault and no
refusal. The invariants are laws that the spec states for every moment of the part. -/

namespace Sys2Proof.Safety

open Sys2Proof.Machine

/-- The step answers a next state. -/
def StepSafe (s : State) : Prop := ∃ t, step s = .next t

/-- "The free, low and high marks satisfy C < L < H ≤ S, and Dr < Dh ≤ S, after every parameter write"; "The law binds
once slots exist. At power-on S is 0 and all five marks are 0" (R146). -/
def MarksLaw (s : State) : Prop :=
  if s.map.slotCount = 0 then
    s.params.markH = 0 ∧ s.params.markL = 0 ∧ s.params.markC = 0 ∧ s.params.markDh = 0 ∧ s.params.markDr = 0
  else
    s.params.markC < s.params.markL ∧ s.params.markL < s.params.markH ∧ s.params.markH ≤ s.map.slotCount ∧
      s.params.markDr < s.params.markDh ∧ s.params.markDh ≤ s.map.slotCount

/-- S is 0 or lies in 64 to 65,536, and D is 0 or a multiple of 256 in 2^16 to 2^40 (1.1, R1, R19). -/
def GeometryLaw (s : State) : Prop :=
  (s.map.slotCount = 0 ∨ (64 ≤ s.map.slotCount ∧ s.map.slotCount ≤ 65536)) ∧
    (s.map.diskSize = 0 ∨ (2 ^ 16 ≤ s.map.diskSize ∧ s.map.diskSize ≤ 2 ^ 40 ∧ s.map.diskSize % 256 = 0))

/-- The pin limit lies in 0 to S − H (R58). -/
def PinLimitLaw (s : State) : Prop := s.params.pinLimit ≤ s.map.slotCount - s.params.markH

/-- Td < Tp, and the other heat parameters lie in their ranges (2.7, R46). -/
def HeatParametersLaw (p : Params) : Prop :=
  p.td < p.tp ∧ p.tp ≤ 65535 ∧ p.readWeight ≤ 15 ∧ p.writeWeight ≤ 15 ∧ 1 ≤ p.decayShift ∧ p.decayShift ≤ 8 ∧
    1 ≤ p.confirmDepth ∧ p.confirmDepth ≤ 7 ∧ p.admitBar ≤ 65535 ∧ 64 ≤ p.streamThreshold ∧
    p.streamThreshold ≤ 65535 ∧ p.sweepCode ≤ 255

/-- "The notice line is asserted while at least one flag is set that the mask enables, and deasserted otherwise"
(R168). -/
def NoticeLaw (s : State) : Prop := s.sup.notice = noticeLine s.sup.flags s.sup.mask

/-- "The Arrival Queue holds up to 8 descriptors", and "The link is NOT_READY while the queue holds 8 descriptors, and
READY while it holds fewer" (R157). -/
def LinkLaw (s : State) : Prop :=
  s.link.queue.length ≤ 8 ∧ s.link.ready = decide (s.link.queue.length < 8)

/-- The parameters and the geometry keep the laws that their owning rules state. -/
def ConfigurationLaw (s : State) : Prop := GeometryLaw s ∧ MarksLaw s ∧ PinLimitLaw s ∧ HeatParametersLaw s.params

/-- "The free count, the dirty count and the pinned count" are those the Slot Table would give if counted, and the
table has S records (R1, R10). -/
def CountsLaw (m : ResidencyMap) : Prop :=
  m.slots.length = m.slotCount ∧ m.freeCount = m.slots.countP SlotRec.isFree ∧
    m.dirtyCount = m.slots.countP SlotRec.isDirty ∧ m.pinnedCount = m.slots.countP SlotRec.countsPinned

/-- The Heat Table has 1,024 entries, the used count is that of the entries in use, and the candidate count that of the
entries in CANDIDATE (R24, R25). -/
def HeatCountsLaw (h : HeatUnit) : Prop :=
  h.entries.length = 1024 ∧ h.usedCount = h.entries.countP (·.isSome) ∧
    h.candidateCount = h.entries.countP (fun e => e.any (·.isCandidate))

/-- Each class's queue holds at most its capacity (7.1). -/
def QueuesLaw (s : State) : Prop := ∀ k : JobClass, (s.arbiter.queues.get k).length ≤ k.capacity

/-! ### Vocabulary of the statements -/

/-- The head of the Arrival Queue is `d`, of operation `op`, with `rest` behind it; no head hold is in force and no
Command Table record is held for the tag of `d`: the descriptor can be taken and handed to its owner (R158, R159). -/
def HeadIs (op : Operation) (d : Descriptor) (rest : List Descriptor) (s : State) : Prop :=
  s.link.headHold = none ∧ s.link.queue = d :: rest ∧ operation d = some op ∧ ∀ r ∈ s.commands, r.tag ≠ tagOf d

/-- The state after the head descriptor has left the queue with `rest` behind it: the link is READY while the queue
holds fewer than 8 (R157). -/
def dequeued (rest : List Descriptor) (s : State) : State :=
  { s with link := { s.link with queue := rest, ready := decide (rest.length < Config.arrivalQueueSize) } }

/-- The state after a management descriptor has left the queue and taken its record (R159). -/
def taken (op : Operation) (d : Descriptor) (rest : List Descriptor) (s : State) : State :=
  { dequeued rest s with commands := s.commands ++ [managementRecord (tagOf d) op] }

/-- The state after a completion record for `d` has been sent (R162). -/
def replied (d : Descriptor) (st : Status) (res : Result) (s : State) : State :=
  { s with link := { s.link with sent := s.link.sent ++ [⟨tagOf d, st, none, res⟩] } }

/-- A port after a piece has joined the end of its list, sent at once where the port may send (R87). -/
def joined (u : PortUnit) (x : Piece) (sends : Bool) (limit : Nat) : PortUnit :=
  if sends then PortUnit.sendAll { u with list := u.list ++ [x] } limit else { u with list := u.list ++ [x] }

/-- The state that a portion's own changes start from: the region's access has been taken where the event's order says
so (R34, R68). -/
def reportedFirst (o : AccessOrder) (r : CommandRec) (s : State) : State :=
  match reportedAccess s r, o with
  | some a, .accessFirst => takeAccess a s
  | _, _ => s

/-- The accesses in transit after a routing event: one reported after the portion's changes joins them (R34, R68). -/
def inTransit (o : AccessOrder) (r : CommandRec) (s : State) : List Access :=
  match reportedAccess s r, o with
  | some a, .routeFirst => s.accesses ++ [a]
  | _, _ => s.accesses

/-- The fills that postings for chunk positions of a region ask for, in ascending position: of the touched chunks, those
that R34 does not exclude and that are no duplicate (R34, R40, R114). -/
def hotFills (region : Nat) (positions : ChunkSet) (s : State) : List Job :=
  ((((List.range 8).filter (fun p => positions.getLsbD p)).map (fun p => 8 * region + p)).filter
    (fun c => needsHotFill s c && !isDuplicate s ⟨.fill, .chunk c⟩)).map (fun c => ⟨.fill, .chunk c⟩)

/-- The state after Hot-Fill postings: they join the queue up to its capacity of 64, and one beyond it sets JOB_DROPPED
(7.1, R115). -/
def posted (jobs : List Job) (s : State) : State :=
  { s with
    arbiter := { s.arbiter with queues := { s.arbiter.queues with
      hotFill := s.arbiter.queues.hotFill ++ jobs.take (64 - s.arbiter.queues.hotFill.length) } }
    sup := if 64 - s.arbiter.queues.hotFill.length < jobs.length then (setFlag .jobDropped s).sup else s.sup }

/-- The map after a demotion hint: the referenced flag of every slot bound to a touched chunk is clear (R42). -/
def hinted (region : Nat) (touched : ChunkSet) (m : ResidencyMap) : ResidencyMap :=
  { m with slots := m.slots.mapIdx (fun i r =>
      if (List.range 8).any (fun p => touched.getLsbD p && m.slotOf (8 * region + p) == some i) then
        { r with referenced := false }
      else r) }

/-- What looking at a stall of the scanner `x` leaves of it, on the counts of `t`: the cursor stands, and the stall goes
on while the Pin-Fill queue is full or the pin-limit condition holds, which is then raised; else it is over (R61). -/
def stallSeen (x : Scanner) (t : State) : Scanner :=
  match x with
  | .scanning e c (.stalled raised) => .scanning e c (
      if 16 ≤ t.arbiter.queues.pinFill.length then .stalled raised
      else if t.params.pinLimit ≤ t.map.pinnedCount + t.arbiter.queues.pinFill.length then .stalled true
      else .none)
  | y => y

/-- What the end of a job of class `k`, at a Mover that is not held, leaves in the Arbiter, from `s` to `t`: under
AUTO pacing the service is NONE, and in ROTATING mode L is the class; under ACK it is AWAIT_ACK with ACK_WAIT set
(R118, R124, R125). Queues and mask stand, and a stall of the Pin Scanner is looked at, with no chunk examined (R61). -/
def JobEnded (k : JobClass) (s t : State) : Prop :=
  t.arbiter.service = s.arbiter.service.set k (if s.params.pacing.get k = .auto then .none else .awaitAck) ∧
  t.arbiter.lowest = (if s.params.pacing.get k = .auto ∧ s.params.priority = .rotating then k else s.arbiter.lowest) ∧
  (s.params.pacing.get k = .ack → t.sup.flags.getLsbD 5 = true) ∧ t.arbiter.mask = s.arbiter.mask ∧
  t.arbiter.queues = s.arbiter.queues ∧ t.scanner = stallSeen s.scanner t

/-- The commands that take the head of the Arrival Queue (rows READ to ENABLE of the table). -/
def headCommands : List Instr :=
  [.read, .write, .trim, .sync, .unknownOperation, .identify, .setGeometry, .loadSlots, .setParametersWrite,
   .setParametersRead, .loadRange, .clearHeatEmpty, .clearHeatLevel, .postJob, .ackJob, .setLowest, .setMask,
   .pollArbiter, .readJobStatus, .spinUp, .spinDown, .portRestart, .readStatus, .readEvents, .setEventMask,
   .holdBlocks, .setCursor, .readNext, .enable]

/-- The management commands, each with its operation. -/
def managementCommands : List (Instr × Operation) :=
  [(.identify, .identify), (.setGeometry, .setGeometry), (.loadSlots, .loadSlots),
   (.setParametersWrite, .setParameters), (.setParametersRead, .setParameters), (.loadRange, .loadRange),
   (.clearHeatEmpty, .clearHeat), (.clearHeatLevel, .clearHeat), (.postJob, .postJob), (.ackJob, .ackJob),
   (.setLowest, .setLowest), (.setMask, .setMask), (.pollArbiter, .pollArbiter), (.readJobStatus, .readJobStatus),
   (.spinUp, .spinUp), (.spinDown, .spinDown), (.portRestart, .portRestart), (.readStatus, .readStatus),
   (.readEvents, .readEvents), (.setEventMask, .setEventMask), (.holdBlocks, .holdBlocks), (.setCursor, .setCursor),
   (.readNext, .readNext), (.enable, .enable)]

end Sys2Proof.Safety
end

