-- ==== Sys2Proof/Certificates/Slice0/Obligations.lean ====
section
/-! DEFINITION. The statements for the provers. Where an event is one that the part judges at its end (log entry 8), a
statement gives the state that the event itself leads to and says that the command answers `settle` of it; what `settle`
does is stated under "The end of an event". -/

open Sys2Proof Sys2Proof.Machine Sys2Proof.Safety

/-! ### Step, power and link -/

/-- One step takes the command at the front of the queue and runs it on the state with the queue's rest; on an empty
queue the part idles (log entry 2). -/
def Obligations.StepTakesFrontCommand : Prop :=
  (∀ (c : Instr) (rest : List Instr) (s : State), step { s with pending := c :: rest } = exec c { s with pending := rest }) ∧
  (∀ s : State, s.pending = [] → step s = .next s)

/-- No command stops the part: each answers a next state, and leaves the waiting commands as they stand. -/
def Obligations.EveryCommandAnswersNext : Prop :=
  ∀ (c : Instr) (s : State), ∃ t, exec c s = .next t ∧ t.pending = s.pending

/-- POWER_ON puts every block into the state its chapter gives for power-on (R175), whatever state it finds: mode,
flags, mask, line, holds, cursor and detectors; map, ranges, walk and scanner; link, Command Table and routing order;
Heat Table, sweep and streams; Arbiter, Mover and the whole Reclaimer; both ports PROBING with their probes sent, no
timeout counted and no record withheld; the spindle STOPPED; and every parameter at its reset value. -/
def Obligations.PowerOnState : Prop :=
  ∀ s : State, ∃ t, exec .powerOn s = .next t ∧
    t.sup = {
      mode := .loading, flags := 0#12, mask := 0#12, notice := false, freeBelow := false, freeReported := false
      dirtyAbove := false, dirtyReported := false, holds := 0#5, cursor := ⟨.slots, 0, true⟩, enableWaiting := false } ∧
    t.map = ⟨0, 0, [], [], 0, 0, 0⟩ ∧ t.ranges = List.replicate 32 none ∧ t.walk = none ∧ t.scanner = .idle ∧
    t.link.queue = [] ∧ t.link.headHold = none ∧ t.link.ready = true ∧ t.commands = [] ∧ t.routing = [] ∧
    t.heat = ⟨List.replicate 1024 none, 0, 0, 0, some 10, none⟩ ∧ t.streams = [] ∧ t.accesses = [] ∧
    t.arbiter = ⟨⟨[], [], [], [], []⟩, ⟨.none, .none, .none, .none, .none⟩, 0#5, .flushIdle⟩ ∧
    t.mover = ⟨none, none, none⟩ ∧
    t.reclaimer = {
      duties := ⟨false, false, false⟩, hand := 0, condition := .stopped, noProgress := 0, idleRevolution := 0
      idleFlushTimer := none } ∧
    t.flash = { status := .probing, list := [], withheld := [], timeouts := 0, probeTimer := some 2000, sent := [.probe] } ∧
    t.disk = { status := .probing, list := [], withheld := [], timeouts := 0, probeTimer := some 10000, sent := [.probe] } ∧
    t.spindle = {
      state := .stopped, startTimer := none, retryTimer := none, idleTimer := none, startFailed := false
      restartPending := false, pendingSpinDown := false } ∧
    t.params = {
      readWeight := 4, writeWeight := 2, tp := 256, td := 32, decayShift := 3, confirmDepth := 2, admitBar := 16
      streamThreshold := 2048, sweepCode := 9, candidateMode := .rollover, markH := 0, markL := 0, markC := 0
      markDh := 0, markDr := 0, pinLimit := 0, idleFlushDelay := 20, writeMode := .absorbWhenStopped, flashLimit := 20
      diskLimit := 50, startLimit := 20, retryDelay := 5, idleDelay := 8, priority := .fixed
      pacing := ⟨.auto, .auto, .auto, .auto, .auto⟩, watchdogCode := 100 }

/-- A link reset (R85, R163): the Arrival Queue and the Command Table are emptied, routing stops, a head hold ends, no
SPIN DOWN stays pending, every piece owned by a command becomes an orphan, the link is READY, nothing is sent, and all
else stands. -/
def Obligations.LinkReset : Prop :=
  ∀ s : State,
    let orphan : Piece → Piece := fun x =>
      match x.owner with
      | .command _ => { x with owner := .orphan }
      | _ => x
    exec .linkReset s = .next { s with
      link := { s.link with queue := [], headHold := none, ready := true }
      commands := []
      routing := []
      flash := { s.flash with list := s.flash.list.map orphan }
      disk := { s.disk with list := s.disk.list.map orphan }
      spindle := { s.spindle with pendingSpinDown := false } }

/-- A descriptor that arrives while the link is READY joins the end of the queue, and the link becomes NOT_READY when
the queue holds 8; one that arrives while the link is NOT_READY changes nothing (R157). -/
def Obligations.DescriptorArrival : Prop :=
  ∀ (d : Descriptor) (s : State),
    (s.link.ready = true → exec (.descriptorArrival d) s = .next { s with link := { s.link with
      queue := s.link.queue ++ [d], ready := decide (s.link.queue.length + 1 < 8) } }) ∧
    (s.link.ready = false → exec (.descriptorArrival d) s = .next s)

/-- While a head hold is in force, and on an empty Arrival Queue, no command that takes the head changes anything (R158,
R161; that such an event is one without effect is log entry 1). -/
def Obligations.NoHeadNoEffect : Prop :=
  ∀ c ∈ headCommands, ∀ s : State, s.link.headHold ≠ none ∨ s.link.queue = [] → exec c s = .next s

/-! ### Media descriptors -/

/-- An accepted media descriptor leaves the queue, takes a record with the descriptor's fields and joins the end of
the routing order (R66). A READ or WRITE updates the Stream Detector while Heat is not held (R27): the first record
whose next LBA is the command's moves to the front with the count added to its run length; without one the least
recent of four records gives way to a new one with the count; both saturate at 65,535, and another record left with
the same next LBA is emptied. The streaming flag is set when the run so updated reaches the threshold (R28). A SYNC's
LBA and count are not checked and not used (R64, R65). -/
def Obligations.MediaAccepted : Prop :=
  ∀ (s : State) (d : Descriptor) (rest : List Descriptor), s.sup.mode ≠ .loading →
    (∀ (op : Operation) (c : Instr), (op, c) ∈ [(Operation.read, Instr.read), (.write, .write), (.trim, .trim)] →
      HeadIs op d rest s → lbaOf d + countOf d ≤ s.map.diskSize →
      let detects : Bool := op ≠ .trim && s.held .heat = false
      let next := lbaOf d + countOf d
      let accepted (run : Nat) (streams : List StreamRec) : State := { dequeued rest s with
        commands := s.commands ++ [{
          tag := tagOf d, kind := op, lba := lbaOf d, count := countOf d,
          buffer := if op = .trim then 0#64 else bufferRefOf d,
          streaming := detects && decide (s.params.streamThreshold ≤ run),
          cursor := lbaOf d, routingDone := false, outstanding := 0, fallbackList := [], fallbackPieces := [],
          status := .good, errorLba := none }]
        routing := s.routing ++ [tagOf d]
        streams := if detects then ⟨next, run⟩ :: streams.filter (fun r => r.next != next) else s.streams }
      (∀ (x : StreamRec) (before behind : List StreamRec), s.streams = before ++ x :: behind → x.next = lbaOf d →
        (∀ r ∈ before, r.next ≠ lbaOf d) →
        exec c s = .next (accepted (min 65535 (x.run + countOf d)) (before ++ behind))) ∧
      ((∀ r ∈ s.streams, r.next ≠ lbaOf d) →
        exec c s = .next (accepted (min 65535 (countOf d)) (s.streams.take 3)))) ∧
    (HeadIs .sync d rest s → exec .sync s = .next { dequeued rest s with
      commands := s.commands ++ [{
        tag := tagOf d, kind := .sync, lba := 0, count := 0, buffer := 0#64, streaming := false, cursor := 0,
        routingDone := false, outstanding := 0, fallbackList := [], fallbackPieces := [], status := .good,
        errorLba := none }]
      routing := s.routing ++ [tagOf d] })

/-- Rows 1 to 3 of R65: TAG_CONFLICT, NOT_READY in LOADING, and ADDRESS_ERROR with the lowest LBA at or beyond the
disk. The descriptor leaves the queue and takes no record, and nothing else changes. -/
def Obligations.MediaAnsweredAtOnce : Prop :=
  ∀ (s : State) (d : Descriptor) (rest : List Descriptor) (op : Operation) (c : Instr),
    (op, c) ∈ [(Operation.read, Instr.read), (.write, .write), (.trim, .trim), (.sync, .sync)] →
    s.link.headHold = none → s.link.queue = d :: rest → operation d = some op →
    let answered (st : Status) (lba : Option Nat) : State :=
      { dequeued rest s with link := { (dequeued rest s).link with sent := s.link.sent ++ [⟨tagOf d, st, lba, .none⟩] } }
    ((∃ r ∈ s.commands, r.tag = tagOf d) → exec c s = .next (answered .tagConflict none)) ∧
    ((∀ r ∈ s.commands, r.tag ≠ tagOf d) → s.sup.mode = .loading → exec c s = .next (answered .notReady none)) ∧
    ((∀ r ∈ s.commands, r.tag ≠ tagOf d) → s.sup.mode ≠ .loading → op ≠ .sync →
      s.map.diskSize < lbaOf d + countOf d →
      exec c s = .next (answered .addressError (some (max (lbaOf d) s.map.diskSize))))

/-- What the decoder answers itself (R158, R159): a descriptor with an unknown operation code completes
UNKNOWN_OPERATION at once, in every mode and whether or not its tag is in use; a management descriptor whose tag is
held completes TAG_CONFLICT at once, and the held record is not changed. -/
def Obligations.DecoderAnswers : Prop :=
  ∀ (s : State) (d : Descriptor) (rest : List Descriptor), s.link.headHold = none → s.link.queue = d :: rest →
    (operation d = none →
      exec .unknownOperation s = .next (replied d .unknownOperation .none (dequeued rest s))) ∧
    (∀ (op : Operation) (c : Instr), (c, op) ∈ managementCommands → headCommand d = c → operation d = some op →
      (∃ r ∈ s.commands, r.tag = tagOf d) →
      ∃ t, exec c s = .next t ∧ (t = replied d .tagConflict .none (dequeued rest s) ∨
        t = settle s (replied d .tagConflict .none (dequeued rest s))))

/-! ### Management descriptors: reports -/

/-- IDENTIFY in every part mode: GOOD with the part's identity and limits, and nothing else changes (R173, with the
encodings of R178 and R179). -/
def Obligations.IdentifyAnswers : Prop :=
  ∀ (s : State) (d : Descriptor) (rest : List Descriptor), HeadIs .identify d rest s →
    exec .identify s = .next (replied d .good
      (.fields [some 11, some 4, some 1, some 65536, some 32, some 1024, some 32]) (dequeued rest s))

/-- POLL ARBITER and READ JOB STATUS report the Arbiter and the Mover as they stand, item by item in the order of
their tables, and change nothing (R127, R142, with the codes of R179). POLL ARBITER: the next grant, each class's row,
mask, L and priority mode. READ JOB STATUS: each context's row and the failure record; what does not apply is absent,
which for a FREE context is every item but its occupancy, and the run index counts from 0 (log entry 16). -/
def Obligations.ReportsChangeNothing : Prop :=
  ∀ (s : State) (d : Descriptor) (rest : List Descriptor),
    let flag (b : Bool) : Option Nat := some b.toNat
    let job (k : JobClass) : List (Option Nat) := match s.arbiter.service.get k with
      | .job _ j c => [
          some (match j.target with | .chunk n => n | .slot n => n), some (match c with | .ctx0 => 0 | .ctx1 => 1)]
      | _ => [none, none]
    let state (k : JobClass) : Nat := match s.arbiter.service.get k with
      | .none => 0
      | .job .pending _ _ => 1
      | .job .active _ _ => 2
      | .job .suspending _ _ => 3
      | .job .suspended _ _ => 4
      | .awaitAck => 5
    let row (k : JobClass) : List (Option Nat) := [
      some (s.arbiter.queues.get k).length, flag (!(s.arbiter.queues.get k).isEmpty), flag (eligible s k),
      some (state k), some (match s.params.pacing.get k with | .auto => 0 | .ack => 1)] ++ job k
    let atPort (id : Nat) : Option Nat :=
      ((s.flash.list ++ s.disk.list).find? (fun x => x.id == id)).map (fun x =>
        match x.state with | .waiting => 0 | .sent => 1 | .aborting => 2)
    let fillOnly (x : Context) (v : Option Nat) : Option Nat := if x.action = .fill then v else none
    let flushOnly (x : Context) (v : Nat) : Option Nat := if x.action = .fill then none else some v
    let context (c : CtxId) : List (Option Nat) := match s.ctx c with
      | none => some 0 :: List.replicate 17 none
      | some x => [
          some 1, some x.cls.number, some x.action.code, x.chunk, x.slot, some (state x.cls), some x.phase.code,
          fillOnly x (x.readSpan.map (·.1)), fillOnly x (x.readSpan.map (·.2)), fillOnly x (some x.cursor),
          flushOnly x x.runIndex, flushOnly x x.snapshot.length, x.piece, x.piece.bind atPort, flag x.poolWait,
          some (match x.abort with | none => 0 | some .timeout => 1 | some .held => 2), flag x.usingDisk,
          flag x.watchdog.isSome]
    let failure : List (Option Nat) := match s.mover.failure with
      | none => List.replicate 7 none
      | some f => [some f.cls.number, some f.action.code, f.chunk, f.slot, some f.reason.code, f.lba, some f.phase.code]
    (HeadIs .pollArbiter d rest s → exec .pollArbiter s = .next (replied d .good (.fields
      ((nextGrant s).map (·.number) ::
        (row .flushUrgent ++ row .pinFill ++ row .directed ++ row .hotFill ++ row .flushIdle) ++
        [some s.arbiter.mask.toNat, some s.arbiter.lowest.number,
          some (match s.params.priority with | .fixed => 0 | .rotating => 1)])) (dequeued rest s))) ∧
    (HeadIs .readJobStatus d rest s → exec .readJobStatus s = .next (replied d .good (.fields
      (context .ctx0 ++ context .ctx1 ++ failure)) (dequeued rest s)))

/-- READ STATUS reports the part as it stands, item by item in the order of R170's table; each detector's reported
side then takes its current side, and nothing else changes (R155, R170). The Command Table count includes READ
STATUS's own record (log entry 15). -/
def Obligations.ReadStatusReports : Prop :=
  ∀ (s : State) (d : Descriptor) (rest : List Descriptor), HeadIs .readStatus d rest s →
    let flag (b : Bool) : Option Nat := some b.toNat
    exec .readStatus s = .next (replied d .good (.fields [
      some s.sup.mode.code, some s.flash.status.code, some s.disk.status.code,
      some s.spindle.state.code, flag s.spindle.startFailed, flag s.spindle.restartPending,
      flag s.spindle.retryTimer.isSome, flag s.spindle.pendingSpinDown,
      some s.map.freeCount, some s.map.dirtyCount, some s.map.pinnedCount,
      some s.heat.candidateCount, some s.heat.usedCount, flag s.sup.freeBelow, flag s.sup.dirtyAbove,
      some s.params.markH, some s.params.markL, some s.params.markC, some s.params.markDh, some s.params.markDr,
      some s.params.pinLimit, some s.params.tp, some s.params.td, some s.sup.holds.toNat,
      some (s.commands.length + 1),
      some (s.flash.list.length + s.flash.withheld.length + (s.disk.list.length + s.disk.withheld.length))])
      { dequeued rest s with sup := { s.sup with
          freeReported := s.sup.freeBelow, dirtyReported := s.sup.dirtyAbove } })

/-- READ EVENTS returns the set flags and clears exactly those; SET EVENT MASK replaces the mask, ignoring encodings
beyond the twelve flags. Each drives the notice line anew, and nothing else changes (R168, R169). -/
def Obligations.EventFlagCommands : Prop :=
  ∀ (s : State) (d : Descriptor) (rest : List Descriptor),
    (HeadIs .readEvents d rest s → exec .readEvents s = .next (replied d .good (.fields [some s.sup.flags.toNat])
      { dequeued rest s with sup := { s.sup with flags := 0#12, notice := false } })) ∧
    (HeadIs .setEventMask d rest s →
      exec .setEventMask s = .next (replied d .good (.fields [some (headerField d 4 2 % 4096)])
        { dequeued rest s with sup := { s.sup with
            mask := BitVec.ofNat 12 (headerField d 4 2)
            notice := s.sup.flags &&& BitVec.ofNat 12 (headerField d 4 2) != 0#12 } }))

/-- The table-read cursor (R171, R22, R48, R51): SET CURSOR sets table, index and auto-increment, or is refused
BAD_INDEX with no change; READ NEXT returns the record at the cursor as it stands, and the index advances by one with
auto-increment on, wrapping at the table's size; an index at or above the size is refused BAD_INDEX. The tables have
S, 1,024 and 32 records. -/
def Obligations.TableReadCursor : Prop :=
  ∀ (s : State) (d : Descriptor) (rest : List Descriptor),
    (HeadIs .setCursor d rest s →
      let i := headerField d 8 4
      let set (table : CursorTable) : State := replied d .good (.fields [some table.code, some i])
        { dequeued rest s with sup := { s.sup with cursor := ⟨table, i, d.header.getLsbD 40⟩ } }
      let refused : State := replied d .badIndex .none (dequeued rest s)
      (headerField d 4 1 = 0 → exec .setCursor s = .next (if i < s.map.slotCount then set .slots else refused)) ∧
      (headerField d 4 1 = 1 → exec .setCursor s = .next (if i < 1024 then set .heat else refused)) ∧
      (headerField d 4 1 = 2 → exec .setCursor s = .next (if i < 32 then set .ranges else refused)) ∧
      (2 < headerField d 4 1 → exec .setCursor s = .next refused)) ∧
    (HeadIs .readNext d rest s →
      let cur := s.sup.cursor
      let size := match cur.table with | .slots => s.map.slotCount | .heat => 1024 | .ranges => 32
      let record : Result := match cur.table with
        | .slots => .slotRecord cur.index ((s.map.slots[cur.index]?).getD .free)
        | .heat => .heatEntry cur.index ((s.heat.entries[cur.index]?).join) (s.heat.victim == some cur.index)
        | .ranges => .rangeRecord cur.index ((s.ranges[cur.index]?).join)
      (cur.index < size → exec .readNext s = .next (replied d .good record
        { dequeued rest s with sup := { s.sup with cursor := { cur with
            index := if cur.autoIncrement then (cur.index + 1) % size else cur.index } } })) ∧
      (size ≤ cur.index → exec .readNext s = .next (replied d .badIndex .none (dequeued rest s))))

/-! ### Management descriptors: configuration -/

/-- SET GEOMETRY (R19). Accepted, it takes the new geometry in one step: an empty map of S slots, the marks at their
values for S (table of 9.1), the pin limit clamped, hand and SLOTS cursor back at 0, and the stored geometry as the
result. It is refused NOT_PERMITTED outside LOADING and during a retag walk, and BAD_RECORD for a slot count or a disk
size outside its range, or a range that ends at or beyond the new disk size; a refusal changes nothing. -/
def Obligations.SetGeometry : Prop :=
  ∀ (s : State) (d : Descriptor) (rest : List Descriptor), HeadIs .setGeometry d rest s →
    let n := headerField d 4 4
    let D := headerField d 8 6
    let refused (st : Status) : State := settle s (replied d st .none (dequeued rest s))
    (s.sup.mode = .loading → s.walk = none → 64 ≤ n → n ≤ 65536 → 2 ^ 16 ≤ D → D ≤ 2 ^ 40 → D % 256 = 0 →
      (∀ r, some r ∈ s.ranges → r.last < D) →
      exec .setGeometry s = .next (settle s (replied d .good (.geometry n D) { dequeued rest s with
        map := ⟨n, D, List.replicate n .free, [], n, 0, 0⟩
        params := { s.params with
          markH := n / 8, markL := n / 16, markC := n / 64, markDh := n / 4, markDr := n / 8
          pinLimit := min s.params.pinLimit (n - n / 8) }
        reclaimer := { s.reclaimer with hand := 0, noProgress := 0 }
        sup := { s.sup with
          cursor := if s.sup.cursor.table = .slots then { s.sup.cursor with index := 0 } else s.sup.cursor } }))) ∧
    (s.sup.mode ≠ .loading ∨ s.walk ≠ none → exec .setGeometry s = .next (refused .notPermitted)) ∧
    (s.sup.mode = .loading → s.walk = none →
      n < 64 ∨ 65536 < n ∨ D < 2 ^ 16 ∨ 2 ^ 40 < D ∨ D % 256 ≠ 0 ∨ (∃ r, some r ∈ s.ranges ∧ D ≤ r.last) →
      exec .setGeometry s = .next (refused .badRecord))

/-- LOAD SLOTS is applied as a whole or not at all (R20, R21). Records that each pass every check, in order and
against the map as those before it leave it, are all written, 1 to 4 of them: FREE, or RESIDENT with the record's
chunk and sets and the pinned flag from the Range Table; the result is empty. Outside LOADING the descriptor is
refused NOT_PERMITTED, with a record count outside 1 to 4 BAD_RECORD at position 0, and with a record that fails a
check it carries that check's status and the position of the first such record; a refusal writes no slot. The checks
on one record are those of the rule, in its order. -/
def Obligations.LoadSlots : Prop :=
  ∀ (s : State) (d : Descriptor) (rest : List Descriptor), HeadIs .loadSlots d rest s →
    let n := headerField d 4 1
    let written (r : SlotLoad) : SlotRec :=
      if r.stateCode = 0 then {
        state := .free, chunk := none, valid := 0#256, dirty := 0#256, redirty := 0#256, referenced := false
        pinned := false, queued := false, inflight := 0 }
      else {
        state := .resident, chunk := some r.chunk, valid := r.valid, dirty := r.dirty, redirty := 0#256
        referenced := false, pinned := chunkIn s .pin r.chunk, queued := false, inflight := 0 }
    let load (u : State) (r : SlotLoad) : State := putSlot r.slot (written r) u
    let image (k : Nat) : State := ((List.range k).map (slotLoad d)).foldl load (dequeued rest s)
    let refused (st : Status) (res : Result) : State := settle s (replied d st res (dequeued rest s))
    (s.sup.mode = .loading → 1 ≤ n → n ≤ 4 →
      ((∀ k, k < n → loadRefusal (slotLoad d k) (image k) = none) →
        exec .loadSlots s = .next (settle s (replied d .good .none (image n)))) ∧
      (∀ (k : Nat) (st : Status), k < n → (∀ j, j < k → loadRefusal (slotLoad d j) (image j) = none) →
        loadRefusal (slotLoad d k) (image k) = some st →
        exec .loadSlots s = .next (refused st (.fields [some k])))) ∧
    (s.sup.mode ≠ .loading → exec .loadSlots s = .next (refused .notPermitted .none)) ∧
    (s.sup.mode = .loading → n = 0 ∨ 4 < n → exec .loadSlots s = .next (refused .badRecord (.fields [some 0]))) ∧
    (∀ (r : SlotLoad) (u : State), loadRefusal r u =
      if u.map.slotCount ≤ r.slot then some .badIndex
      else if r.stateCode ≠ 0 ∧ r.stateCode ≠ 1 then some .badRecord
      else if r.stateCode = 0 ∧ (r.chunkPresent = true ∨ r.valid ≠ 0#256 ∨ r.dirty ≠ 0#256) then some .badRecord
      else if r.stateCode = 1 ∧ (r.chunkPresent = false ∨ u.map.diskSize / 256 ≤ r.chunk) then some .badRecord
      else if r.stateCode = 1 ∧ r.valid = 0#256 then some .badRecord
      else if r.dirty &&& r.valid ≠ r.dirty then some .badRecord
      else if r.stateCode = 1 ∧ (∃ i, u.map.slotOf r.chunk = some i ∧ i ≠ r.slot) then some .duplicateChunk
      else none)

/-- SET PARAMETERS (R172, R176): a WRITE stores the value as the owning rule clamps it and completes GOOD with the
stored value; any other access completes GOOD with the stored value and changes nothing; an identifier that names no
parameter is refused BAD_INDEX and changes nothing. The identifiers outside the heat parameters and the marks are
spelled: 21 the pin limit (R58), 22 the idle-flush delay (R149), 32 the write mode (R72), 33 and 34 the piece limits
(R91), 35 to 37 the spindle parameters (R107), 48 the priority mode (R118), 49 to 53 the pacings (R125), 54 the
watchdog code (R143). A stored idle delay makes a running idle timer start again at the event's end, a watchdog code
of 0 stops the watchdogs, a sweep code restarts the tick timer while Heat is not held (R36), and the change from
ROLLOVER to SINGLE leaves the lowest-indexed CANDIDATE alone in that state (R44). -/
def Obligations.SetParameters : Prop :=
  ∀ (s : State) (d : Descriptor) (rest : List Descriptor), HeadIs .setParameters d rest s →
    let n := headerField d 4 2
    let v := headerField d 8 4
    let p := s.params
    let wrote (u : State) (stored : Nat) : Prop :=
      exec .setParametersWrite s = .next (settle s (replied d .good (.fields [some stored]) u))
    let wrotePacing (k : JobClass) : Prop :=
      wrote { dequeued rest s with params := { p with pacing := p.pacing.set k (if v = 1 then .ack else .auto) } }
        (if v = 1 then 1 else 0)
    (∀ id : ParamId, ParamId.ofNumber n = some id →
      (headerField d 6 1 = 1 →
        wrote (storeParameter id v (dequeued rest s)) ((p.store s.map.slotCount id v).read id)) ∧
      (headerField d 6 1 ≠ 1 → exec .setParametersRead s = .next (replied d .good
        (.fields [some (p.read id)]) (dequeued rest s)))) ∧
    (ParamId.ofNumber n = none →
      (headerField d 6 1 = 1 →
        exec .setParametersWrite s = .next (settle s (replied d .badIndex .none (dequeued rest s)))) ∧
      (headerField d 6 1 ≠ 1 → exec .setParametersRead s = .next (replied d .badIndex .none (dequeued rest s)))) ∧
    (∀ m : Nat, (ParamId.ofNumber m).isSome = true ↔
      (1 ≤ m ∧ m ≤ 10) ∨ (16 ≤ m ∧ m ≤ 22) ∨ (32 ≤ m ∧ m ≤ 37) ∨ (48 ≤ m ∧ m ≤ 54)) ∧
    (headerField d 6 1 = 1 →
      (n = 21 → wrote { dequeued rest s with params := { p with pinLimit := min v (s.map.slotCount - p.markH) } }
        (min v (s.map.slotCount - p.markH))) ∧
      (n = 22 → wrote { dequeued rest s with params := { p with idleFlushDelay := max 1 (min v 255) } }
        (max 1 (min v 255))) ∧
      (n = 32 →
        (v = 0 → wrote { dequeued rest s with params := { p with writeMode := .around } } 0) ∧
        (v = 2 → wrote { dequeued rest s with params := { p with writeMode := .absorbAlways } } 2) ∧
        (v ≠ 0 → v ≠ 2 → wrote { dequeued rest s with params := { p with writeMode := .absorbWhenStopped } } 1)) ∧
      (n = 33 → wrote { dequeued rest s with params := { p with flashLimit := max 1 (min v 255) } } (max 1 (min v 255))) ∧
      (n = 34 → wrote { dequeued rest s with params := { p with diskLimit := max 1 (min v 255) } } (max 1 (min v 255))) ∧
      (n = 35 → wrote { dequeued rest s with params := { p with startLimit := max 1 (min v 60) } } (max 1 (min v 60))) ∧
      (n = 36 → wrote { dequeued rest s with params := { p with retryDelay := max 1 (min v 255) } } (max 1 (min v 255))) ∧
      (n = 37 → wrote { dequeued rest s with
        params := { p with idleDelay := min v 4095 }, spindle := { s.spindle with idleTimer := none } } (min v 4095)) ∧
      (n = 48 → wrote { dequeued rest s with params := { p with priority := if v = 1 then .rotating else .fixed } }
        (if v = 1 then 1 else 0)) ∧
      (n = 49 → wrotePacing .flushUrgent) ∧ (n = 50 → wrotePacing .pinFill) ∧ (n = 51 → wrotePacing .directed) ∧
      (n = 52 → wrotePacing .hotFill) ∧ (n = 53 → wrotePacing .flushIdle) ∧
      (n = 54 → v ≠ 0 → wrote { dequeued rest s with params := { p with watchdogCode := min v 255 } } (min v 255)) ∧
      (n = 54 → v = 0 → wrote { dequeued rest s with
        params := { p with watchdogCode := 0 }
        mover := { s.mover with
          ctx0 := s.mover.ctx0.map (fun x => { x with watchdog := none })
          ctx1 := s.mover.ctx1.map (fun x => { x with watchdog := none }) } } 0) ∧
      (n = 9 →
        let c := min v 255
        let period := if c ≤ 127 then c + 1 else (c - 126) * 128
        let tick := if s.held .heat = true then s.heat.tick else some period
        wrote { dequeued rest s with
          params := { p with sweepCode := c }, heat := { s.heat with tick := tick } } c) ∧
      (n = 10 →
        let level (i : Nat) (e : HeatEntry) : HeatEntry :=
          if e.state = .candidate ∧ (List.range i).any (fun j => (s.heatEntry j).any (fun f => f.state == .candidate)) then
            { e with state := .tracked, confirm := 0 }
          else e
        (v ≠ 0 → wrote { dequeued rest s with params := { p with candidateMode := .rollover } } 1) ∧
        (v = 0 → p.candidateMode = .single →
          wrote { dequeued rest s with params := { p with candidateMode := .single } } 0) ∧
        (v = 0 → p.candidateMode = .rollover → wrote { dequeued rest s with
          params := { p with candidateMode := .single }
          heat := { s.heat with
            entries := s.heat.entries.mapIdx (fun i e => e.map (level i))
            candidateCount := min 1 s.heat.candidateCount } } 0)))

/-- A heat parameter written outside its range is clamped, not refused, and a lowered Tp lowers Td (R46). Identifiers
1 to 10 are those of R179. -/
def Obligations.HeatParametersClamped : Prop :=
  ∀ (s : State) (d : Descriptor) (rest : List Descriptor), HeadIs .setParameters d rest s → headerField d 6 1 = 1 →
    let p := s.params
    let n := headerField d 4 2
    let v := headerField d 8 4
    ∃ t, exec .setParametersWrite s = .next t ∧
      (n = 1 → t.params = { p with readWeight := min v 15 }) ∧
      (n = 2 → t.params = { p with writeWeight := min v 15 }) ∧
      (n = 3 → t.params = { p with
        tp := max 1 (min v 65535), td := min p.td (max 1 (min v 65535) - 1) }) ∧
      (n = 4 → t.params = { p with td := min v (p.tp - 1) }) ∧
      (n = 5 → t.params = { p with decayShift := max 1 (min v 8) }) ∧
      (n = 6 → t.params = { p with confirmDepth := max 1 (min v 7) }) ∧
      (n = 7 → t.params = { p with admitBar := min v 65535 }) ∧
      (n = 8 → t.params = { p with streamThreshold := max 64 (min v 65535) }) ∧
      (n = 9 → t.params = { p with sweepCode := min v 255 }) ∧
      (n = 10 → t.params = { p with candidateMode := if v = 0 then .single else .rollover }) ∧
      (∀ id, 1 ≤ n → n ≤ 10 → ParamId.ofNumber n = some id →
        t.link.sent = s.link.sent ++ [⟨tagOf d, .good, none, .fields [some (t.params.read id)]⟩])

/-- A write of one of the five marks stores it and then clamps all five in the order H, L, C, Dh, Dr, each against those
already clamped, and the pin limit to S − H; while S is 0 every mark is stored as 0 (R146, R58). -/
def Obligations.MarksClamped : Prop :=
  ∀ (s : State) (d : Descriptor) (rest : List Descriptor), HeadIs .setParameters d rest s → headerField d 6 1 = 1 →
    let n := headerField d 4 2
    let v := headerField d 8 4
    let S := s.map.slotCount
    16 ≤ n → n ≤ 20 →
    let H := max 2 (min S (if n = 16 then v else s.params.markH))
    let L := max 1 (min (H - 1) (if n = 17 then v else s.params.markL))
    let C := min (L - 1) (if n = 18 then v else s.params.markC)
    let Dh := max 1 (min S (if n = 19 then v else s.params.markDh))
    let Dr := min (Dh - 1) (if n = 20 then v else s.params.markDr)
    ∃ t, exec .setParametersWrite s = .next t ∧
      (S ≠ 0 → t.params = { s.params with
        markH := H, markL := L, markC := C, markDh := Dh, markDr := Dr, pinLimit := min s.params.pinLimit (S - H) }) ∧
      (S = 0 → t.params = { s.params with
        markH := 0, markL := 0, markC := 0, markDh := 0, markDr := 0, pinLimit := 0 })

/-- LOAD RANGE. Accepted, it stores its record or empties its entry, sends the Pin Scanner to IDLE, starts the retag
walk at slot 0 and holds the head (R53, R54). Refused, in the order of R53, it changes nothing and starts no walk. -/
def Obligations.LoadRange : Prop :=
  ∀ (s : State) (d : Descriptor) (rest : List Descriptor), HeadIs .loadRange d rest s →
    let i := headerField d 4 1
    let code := headerField d 5 1
    let lo := payloadField d 0 6
    let hi := payloadField d 8 6
    let stored (e : Option RangeEntry) : State := settle s { taken .loadRange d rest s with
      ranges := s.ranges.set i e
      scanner := .idle
      walk := some 0
      link := { (dequeued rest s).link with headHold := some ⟨tagOf d, .loadRange⟩ } }
    let refused (st : Status) : Prop := exec .loadRange s = .next (settle s (replied d st .none (dequeued rest s)))
    (s.sup.mode ≠ .flashLost → i < 32 →
      (code = 0 → exec .loadRange s = .next (stored none)) ∧
      (∀ k, PlacementClass.ofCode code = some k → lo ≤ hi → hi < s.map.diskSize →
        (∀ b, rangeBelow s.ranges i = some b → b.last < lo) → (∀ a, rangeAbove s.ranges i = some a → hi < a.first) →
        exec .loadRange s = .next (stored (some ⟨lo, hi, k⟩)))) ∧
    (s.sup.mode = .flashLost → refused .notPermitted) ∧
    (s.sup.mode ≠ .flashLost → 31 < i → refused .badIndex) ∧
    (s.sup.mode ≠ .flashLost → i ≤ 31 → 3 < code → refused .badRecord) ∧
    (s.sup.mode ≠ .flashLost → i ≤ 31 → 1 ≤ code → code ≤ 3 → hi < lo ∨ s.map.diskSize ≤ hi → refused .badRecord) ∧
    (s.sup.mode ≠ .flashLost → i ≤ 31 → 1 ≤ code → code ≤ 3 → lo ≤ hi → hi < s.map.diskSize →
      (∃ b, rangeBelow s.ranges i = some b ∧ lo ≤ b.last) ∨ (∃ a, rangeAbove s.ranges i = some a ∧ a.first ≤ hi) →
      refused .order)

/-- CLEAR HEAT: EMPTY makes every entry unused, LEVEL v gives every entry in use the score min(v, 65,535), TRACKED and
confirm count 0; nothing else changes, and the used count is the result (R45). Any other option is refused BAD_RECORD
(R176; that either command takes it is log entry 22). -/
def Obligations.ClearHeat : Prop :=
  ∀ (s : State) (d : Descriptor) (rest : List Descriptor), HeadIs .clearHeat d rest s →
    (headerField d 4 1 = 0 → exec .clearHeatEmpty s = .next (replied d .good (.fields [some 0]) { dequeued rest s with
      heat := { s.heat with
        entries := List.replicate 1024 none, usedCount := 0, candidateCount := 0, victim := none } })) ∧
    (headerField d 4 1 = 1 → exec .clearHeatLevel s = .next (replied d .good (.fields [some s.heat.usedCount])
      { dequeued rest s with heat := { s.heat with
          entries := s.heat.entries.map (fun e => e.map (fun h =>
            { h with score := min (headerField d 8 4) 65535, state := .tracked, confirm := 0 }))
          candidateCount := 0 } })) ∧
    (1 < headerField d 4 1 →
      exec .clearHeatEmpty s = .next (replied d .badRecord .none (dequeued rest s)) ∧
      exec .clearHeatLevel s = .next (replied d .badRecord .none (dequeued rest s)))

/-- HOLD BLOCKS replaces the hold set, ignoring encodings beyond the five, and completes GOOD with it. Heat, PinScanner
and Reclaimer go to their hold states when they enter the set; Heat's sweep starts again and a Pin Scanner restart is
requested when they leave it; a set that is repeated changes nothing (R174, R49, R63, R59, R156). So far for a Mover
without jobs. A Mover that enters the set alone with one job in context 0: without a piece outstanding the job ends
FAILED, reason HELD, and a stall of the Pin Scanner is looked at again (R61), and with a flash piece SENT its abort is
asked for (R145); AWAIT_ACK services and the service of a job so ended become NONE without rotation, and the queues are
kept (R128). A Mover that leaves the set stops the watchdogs (R145). Not stated here: a hold of SpindleAutoStop (R112),
two jobs held at once, one in context 1, a job whose piece is a disk piece or WAITING, and a Mover that enters the set
together with another block (log entry 31). -/
def Obligations.HoldBlocks : Prop :=
  ∀ (s : State) (d : Descriptor) (rest : List Descriptor), HeadIs .holdBlocks d rest s →
    let m := BitVec.ofNat 5 (headerField d 4 1)
    let enters (b : Block) : Prop := s.held b = false ∧ m.getLsbD b.bit = true
    let leaves (b : Block) : Prop := s.held b = true ∧ m.getLsbD b.bit = false
    let stays (b : Block) : Prop := s.held b = m.getLsbD b.bit
    (s.mover.ctx0 = none → s.mover.ctx1 = none → ∃ t, exec .holdBlocks s = .next t ∧ t.sup.holds = m ∧
      t.link.sent = s.link.sent ++ [⟨tagOf d, .good, none, .fields [some (headerField d 4 1 % 32)]⟩] ∧
      (enters .heat → t.streams = [] ∧ t.heat = ⟨List.replicate 1024 none, 0, 0, 0, none, none⟩) ∧
      (leaves .heat → t.streams = s.streams ∧ t.heat = { s.heat with tick := some (tickPeriod s.params.sweepCode) }) ∧
      (stays .heat → t.streams = s.streams ∧ t.heat = s.heat) ∧
      (enters .pinScanner → t.scanner = .idle) ∧
      (leaves .pinScanner → t.scanner =
        if s.sup.mode = .online then
          (match pinEntryFrom s 0 with
            | some (k, e) => .scanning k (e.first / 256) .none
            | none => .idle)
        else .idle) ∧
      (enters .reclaimer → t.reclaimer = ⟨⟨false, false, false⟩, 0, .stopped, 0, 0, none⟩) ∧
      (leaves .reclaimer ∨ stays .reclaimer → t.reclaimer.hand = s.reclaimer.hand) ∧
      (m = s.sup.holds → exec .holdBlocks s = .next (settle s (replied d .good
        (.fields [some (headerField d 4 1 % 32)]) (dequeued rest s)))) ∧
      t.map = s.map ∧ t.ranges = s.ranges ∧ t.params = s.params ∧ t.arbiter.queues = s.arbiter.queues ∧
      t.commands = s.commands ∧ t.routing = s.routing ∧ t.flash = s.flash ∧ t.disk.list = s.disk.list) ∧
    (leaves .mover → ∃ t, exec .holdBlocks s = .next t ∧ t.sup.holds = m ∧
      t.mover = { s.mover with
        ctx0 := s.mover.ctx0.map (fun x => { x with watchdog := none })
        ctx1 := s.mover.ctx1.map (fun x => { x with watchdog := none }) } ∧
      t.arbiter = s.arbiter ∧ t.map = s.map ∧ t.flash = s.flash ∧ t.disk.list = s.disk.list) ∧
    (∀ x : Context, s.mover.ctx0 = some x → s.mover.ctx1 = none → x.abort = none → enters .mover →
      (∀ b, b ≠ .mover → stays b) →
      let services (ended : JobClass → Bool) (t : State) : Prop := ∀ k, t.arbiter.service.get k =
        if ended k = true ∨ s.arbiter.service.get k = .awaitAck then .none else s.arbiter.service.get k
      (∀ slot : Nat, x.piece = none → x.slot = some slot →
        ∃ t, exec .holdBlocks s = .next t ∧ t.sup.holds = m ∧
        t.mover = ⟨none, none, some ⟨x.cls, x.action, x.chunk, some slot, .held, none, x.phase⟩⟩ ∧
        t.sup.flags.getLsbD 4 = true ∧ services (fun k => k == x.cls) t ∧ t.arbiter.queues = s.arbiter.queues ∧
        t.arbiter.lowest = s.arbiter.lowest ∧ t.scanner = stallSeen s.scanner t ∧
        t.map = (modifySlot slot (if x.action = .fill then SlotRec.afterFill else SlotRec.afterFlush) s).map) ∧
      (∀ (id : Nat) (q : Piece) (before behind : List Piece), x.piece = some id →
        s.flash.list = before ++ q :: behind → q.id = id → q.state = .sent → (∀ y ∈ before ++ behind, y.id ≠ id) →
        ∃ t w, exec .holdBlocks s = .next t ∧ t.sup.holds = m ∧
          t.mover.ctx0 = some { x with abort := some .held, watchdog := w } ∧ t.mover.failure = s.mover.failure ∧
          t.flash = { s.flash with
            list := before ++ { q with state := .aborting } :: behind, sent := s.flash.sent ++ [.abort id] } ∧
          services (fun _ => false) t ∧ t.arbiter.queues = s.arbiter.queues ∧ t.arbiter.lowest = s.arbiter.lowest ∧
          t.map = s.map))

/-! ### Management descriptors: jobs, spindle, ports, mode -/

/-- The Arbiter's law of one claim: when a posting for a fill, one for a flush, and one for a Directed FLUSH or EVICT
is a duplicate (R114). -/
def Obligations.DuplicatePostings : Prop :=
  ∀ s : State,
    let chunkJob (c : Nat) : Prop := ∃ (k : JobClass) (j : Job), (j ∈ s.arbiter.queues.get k ∨
      (s.arbiter.service.get k).entry = some j) ∧ j.action = .fill ∧ j.target = .chunk c
    let chunkClaimed (c : Nat) : Prop := chunkJob c ∨ ∃ i r, s.map.bound c = some (i, r) ∧ r.queued = true
    let slotClaimed (i : Nat) : Prop := (s.slot i).queued = true ∨ ∃ c, (s.slot i).chunk = some c ∧ chunkJob c
    (∀ c, isDuplicate s ⟨.fill, .chunk c⟩ = true ↔ chunkClaimed c) ∧
    (∀ i, isDuplicate s ⟨.flush, .slot i⟩ = true ↔ slotClaimed i) ∧
    (∀ a c, a ≠ .fill → (isDuplicate s ⟨a, .chunk c⟩ = true ↔
      chunkClaimed c ∨ ∃ i, s.map.slotOf c = some i ∧ slotClaimed i))

/-- POST JOB (R116). One that passes its checks joins the end of the Directed queue; for FLUSH and EVICT the queued
flag of the chunk's slot is set in the same event; the result is the queue's depth after the posting. Refused, in the
order of R116, it changes nothing and sets no flag. -/
def Obligations.PostJob : Prop :=
  ∀ (s : State) (d : Descriptor) (rest : List Descriptor), HeadIs .postJob d rest s →
    let c := headerField d 8 4
    let n := s.arbiter.queues.directed.length
    let queued (a : JobAction) : State := { dequeued rest s with arbiter := { s.arbiter with
      queues := { s.arbiter.queues with directed := s.arbiter.queues.directed ++ [⟨a, .chunk c⟩] } } }
    let refused (st : Status) : Prop := exec .postJob s = .next (settle s (replied d st .none (dequeued rest s)))
    (∀ a, s.sup.mode ≠ .loading → JobAction.ofCode (headerField d 4 1) = some a →
      c < s.map.diskSize / 256 → isDuplicate s ⟨a, .chunk c⟩ = false → n < 8 →
      (a = .fill → exec .postJob s = .next (settle s (replied d .good (.fields [some (n + 1)]) (queued a)))) ∧
      (∀ i, a ≠ .fill → s.map.slotOf c = some i → (a = .evict → ∀ r, s.map.slots[i]? = some r → r.pinned = false) →
        exec .postJob s = .next (settle s (replied d .good (.fields [some (n + 1)])
          (modifySlot i (fun r => { r with queued := true }) (queued a)))))) ∧
    (s.sup.mode = .loading → refused .notPermitted) ∧
    (s.sup.mode ≠ .loading → JobAction.ofCode (headerField d 4 1) = none → refused .badRecord) ∧
    (∀ a, s.sup.mode ≠ .loading → JobAction.ofCode (headerField d 4 1) = some a →
      (s.map.diskSize / 256 ≤ c → refused .badRecord) ∧
      (c < s.map.diskSize / 256 → a ≠ .fill → s.map.slotOf c = none → refused .notResident) ∧
      (∀ i r, c < s.map.diskSize / 256 → a = .evict → s.map.bound c = some (i, r) → r.pinned = true →
        refused .pinned) ∧
      (c < s.map.diskSize / 256 → (a ≠ .fill → s.map.slotOf c ≠ none) →
        (a = .evict → ∀ i r, s.map.bound c = some (i, r) → r.pinned = false) →
        (isDuplicate s ⟨a, .chunk c⟩ = true → refused .alreadyQueued) ∧
        (isDuplicate s ⟨a, .chunk c⟩ = false → 8 ≤ s.arbiter.queues.directed.length → refused .queueFull)))

/-- ACK JOB, SET LOWEST and SET MASK. ACK JOB ends the service of a class in AWAIT_ACK, and in ROTATING mode makes it
the lowest class; the result is the class's queue depth, and no event flag is cleared; any other class is refused
NOT_PERMITTED, an encoding above 4 BAD_INDEX (R126). SET LOWEST makes L the class named, or is refused BAD_INDEX
(R118). SET MASK replaces the mask, ignoring encodings above class 4 (R119). Nothing else changes. -/
def Obligations.ArbiterCommands : Prop :=
  ∀ (s : State) (d : Descriptor) (rest : List Descriptor),
    let badIndex : State := replied d .badIndex .none (dequeued rest s)
    (∀ k, HeadIs .ackJob d rest s → JobClass.ofNumber (headerField d 4 1) = some k →
      (s.arbiter.service.get k = .awaitAck →
        exec .ackJob s = .next (replied d .good (.fields [some (s.arbiter.queues.get k).length]) { dequeued rest s with
          arbiter := { s.arbiter with
            service := s.arbiter.service.set k .none
            lowest := if s.params.priority = .rotating then k else s.arbiter.lowest } })) ∧
      (s.arbiter.service.get k ≠ .awaitAck →
        exec .ackJob s = .next (replied d .notPermitted .none (dequeued rest s)))) ∧
    (HeadIs .ackJob d rest s → 4 < headerField d 4 1 → exec .ackJob s = .next badIndex) ∧
    (∀ k, HeadIs .setLowest d rest s → JobClass.ofNumber (headerField d 4 1) = some k →
      exec .setLowest s = .next (replied d .good (.fields [some (headerField d 4 1)])
        { dequeued rest s with arbiter := { s.arbiter with lowest := k } })) ∧
    (HeadIs .setLowest d rest s → 4 < headerField d 4 1 → exec .setLowest s = .next badIndex) ∧
    (HeadIs .setMask d rest s →
      exec .setMask s = .next (replied d .good (.fields [some (headerField d 4 1 % 32)])
        { dequeued rest s with arbiter := { s.arbiter with mask := BitVec.ofNat 5 (headerField d 4 1) } }))

/-- SPIN UP by the spindle's state when it is taken (R108): RUNNING, a running retry delay and a FAULTED Disk Port
complete it at once; a STOPPED spindle behind a READY port is sent START; STARTING, STOPPING and PROBING make it wait.
The result is the spindle state with the start-failed flag. No SPIN DOWN is pending, since one would hold the head. -/
def Obligations.SpinUp : Prop :=
  ∀ (s : State) (d : Descriptor) (rest : List Descriptor), HeadIs .spinUp d rest s → s.spindle.pendingSpinDown = false →
    let answeredWith (st : SpindleState) (t : State) : Prop :=
      t.link = (replied d .good (.fields [some st.code, some s.spindle.startFailed.toNat]) (dequeued rest s)).link ∧
      t.commands = s.commands ∧ t.spindle.state = st ∧ t.disk.sent = s.disk.sent
    let holds (t : State) : Prop :=
      t.link = { (dequeued rest s).link with headHold := some ⟨tagOf d, .spinUp⟩ } ∧
      t.commands = s.commands ++ [managementRecord (tagOf d) .spinUp]
    let failing : Bool := s.spindle.retryTimer.isSome || s.disk.status == .faulted
    ∃ t, exec .spinUp s = .next t ∧ t.map = s.map ∧ t.params = s.params ∧ t.disk.list = s.disk.list ∧
      t.flash = s.flash ∧ t.arbiter = s.arbiter ∧
      (s.spindle.state = .running → answeredWith .running t) ∧
      (s.spindle.state = .stopped → failing = true → answeredWith .stopped t) ∧
      (s.spindle.state = .stopped → s.spindle.retryTimer = none → s.disk.status = .ready →
        holds t ∧ t.disk.sent = s.disk.sent ++ [.start] ∧ t.spindle = { s.spindle with
          state := .starting, startTimer := some (s.params.startLimit * 1000), idleTimer := none
          restartPending := false }) ∧
      (s.spindle.state = .stopped → s.spindle.retryTimer = none → s.disk.status = .probing →
        holds t ∧ t.disk.sent = s.disk.sent ∧ t.spindle.state = .stopped) ∧
      (s.spindle.state = .starting → s.disk.status = .ready →
        holds t ∧ t.disk.sent = s.disk.sent ∧ t.spindle.state = .starting) ∧
      (s.spindle.state = .stopping → s.disk.status = .ready →
        holds t ∧ t.disk.sent = s.disk.sent ∧ t.spindle.state = .stopping ∧ t.spindle.restartPending = true)

/-- SPIN DOWN by the spindle's state when it is taken (R109): STOPPED completes it at once; RUNNING with an idle disk
is sent STOP; otherwise it is pending, or waits for the STOP outstanding. -/
def Obligations.SpinDown : Prop :=
  ∀ (s : State) (d : Descriptor) (rest : List Descriptor), HeadIs .spinDown d rest s →
    let holds (t : State) : Prop :=
      t.link = { (dequeued rest s).link with headHold := some ⟨tagOf d, .spinDown .waiting⟩ } ∧
      t.commands = s.commands ++ [managementRecord (tagOf d) .spinDown]
    (s.spindle.state = .stopped → exec .spinDown s = .next (settle s (replied d .good
      (.fields [some 0, some s.spindle.startFailed.toNat]) (dequeued rest s)))) ∧
    (s.spindle.state ≠ .stopped → ∃ t, exec .spinDown s = .next t ∧ holds t ∧ t.map = s.map ∧ t.params = s.params ∧
      t.disk.list = s.disk.list ∧ t.flash = s.flash ∧ t.arbiter = s.arbiter ∧
      (s.spindle.state = .running → s.disk.list = [] → moverUsesDisk s = false →
        t.spindle.state = .stopping ∧ t.disk.sent = s.disk.sent ++ [.stop] ∧ t.spindle.idleTimer = none ∧
        t.spindle.startTimer = some (s.params.startLimit * 1000) ∧ t.spindle.pendingSpinDown = false) ∧
      (s.spindle.state = .running → s.disk.list ≠ [] ∨ moverUsesDisk s = true →
        t.spindle.state = .running ∧ t.disk.sent = s.disk.sent ∧ t.spindle.pendingSpinDown = true) ∧
      (s.spindle.state = .starting →
        t.spindle.state = .starting ∧ t.disk.sent = s.disk.sent ∧ t.spindle.pendingSpinDown = true) ∧
      (s.spindle.state = .stopping → t.spindle.state = .stopping ∧ t.disk.sent = s.disk.sent))

/-- PORT RESTART of a FAULTED port starts its probe and holds the head; for the Disk Port the spindle is STOPPED with
its timers stopped. Neither port named is BAD_INDEX, a port that is not FAULTED is NOT_PERMITTED (R95, R96, R111). -/
def Obligations.PortRestart : Prop :=
  ∀ (s : State) (d : Descriptor) (rest : List Descriptor), HeadIs .portRestart d rest s →
    let probing (u : PortUnit) (limit : Nat) : PortUnit := { u with
      status := .probing, timeouts := 0, withheld := [], probeTimer := some limit, sent := u.sent ++ [.probe] }
    let held (p : Port) : State := { taken .portRestart d rest s with
      link := { (dequeued rest s).link with headHold := some ⟨tagOf d, .portRestart p⟩ } }
    let refused (st : Status) : Prop := exec .portRestart s = .next (settle s (replied d st .none (dequeued rest s)))
    (headerField d 4 1 = 0 → s.flash.status = .faulted →
      exec .portRestart s = .next (settle s { held .flash with flash := probing s.flash 2000 })) ∧
    (headerField d 4 1 = 1 → s.disk.status = .faulted →
      exec .portRestart s = .next (settle s { held .disk with
        disk := probing s.disk 10000
        spindle := { s.spindle with
          state := .stopped, idleTimer := none, startTimer := none, retryTimer := none, restartPending := false } })) ∧
    (headerField d 4 1 = 0 → s.flash.status ≠ .faulted → refused .notPermitted) ∧
    (headerField d 4 1 = 1 → s.disk.status ≠ .faulted → refused .notPermitted) ∧
    (1 < headerField d 4 1 → refused .badIndex)

/-- ENABLE in LOADING with S above 0 enters ONLINE with a READY Flash Port, FLASH_LOST with a FAULTED one, and waits
for the probe's end with a PROBING one; in any other case it is refused NOT_PERMITTED (R166, R167). -/
def Obligations.Enable : Prop :=
  ∀ (s : State) (d : Descriptor) (rest : List Descriptor), HeadIs .enable d rest s →
    (s.sup.mode ≠ .loading ∨ s.map.slotCount = 0 →
      exec .enable s = .next (settle s (replied d .notPermitted .none (dequeued rest s)))) ∧
    (s.sup.mode = .loading → s.map.slotCount ≠ 0 →
      (s.flash.status = .ready → exec .enable s = .next (settle s (replied d .good (.fields [some 1])
        (restartScanner { dequeued rest s with sup := { s.sup with mode := .online } })))) ∧
      (s.flash.status = .faulted → exec .enable s = .next (settle s (replied d .good (.fields [some 2])
        { dequeued rest s with scanner := .idle, sup := { s.sup with mode := .flashLost } }))) ∧
      (s.flash.status = .probing → exec .enable s = .next (settle s { taken .enable d rest s with
        link := { (dequeued rest s).link with headHold := some ⟨tagOf d, .enable⟩ }
        sup := { s.sup with enableWaiting := true } })))

/-! ### The end of an event -/

/-- What the end of an event leaves as it is, whatever the event: everything but the link and Command Table (a SPIN UP
or SPIN DOWN may complete), the spindle's state, start and idle timers and pending marks, the sent messages of the
Disk Port, duties, condition and idle-flush timer of the Reclaimer, watchdogs, detectors, three event flags and the
Pin Scanner's stall (log entry 8). A stall ends when neither condition holds any more, and one that goes on with the
queue below 16 and the pin-limit condition holding sets PIN_OVER once (R61); the scanner's cursor stays. -/
def Obligations.EventEndFrame : Prop :=
  ∀ b s : State,
    let t := settle b s
    let untimed (x : Option Context) : Option Context := x.map (fun y => { y with watchdog := none })
    let full : Bool := 16 ≤ s.arbiter.queues.pinFill.length
    let limited : Bool := s.params.pinLimit ≤ s.map.pinnedCount + s.arbiter.queues.pinFill.length
    t.map = s.map ∧ t.params = s.params ∧ t.ranges = s.ranges ∧
    t.walk = s.walk ∧ t.heat = s.heat ∧ t.streams = s.streams ∧
    t.accesses = s.accesses ∧ t.arbiter = s.arbiter ∧ t.flash = s.flash ∧
    t.routing = s.routing ∧ t.choice = s.choice ∧ t.pending = s.pending ∧
    t.disk.list = s.disk.list ∧ t.disk.withheld = s.disk.withheld ∧
    t.disk.timeouts = s.disk.timeouts ∧ t.disk.status = s.disk.status ∧ t.disk.probeTimer = s.disk.probeTimer ∧
    t.link.queue = s.link.queue ∧ t.link.ready = s.link.ready ∧
    t.sup.mode = s.sup.mode ∧ t.sup.holds = s.sup.holds ∧ t.sup.mask = s.sup.mask ∧
    t.sup.cursor = s.sup.cursor ∧ t.sup.enableWaiting = s.sup.enableWaiting ∧
    t.sup.freeReported = s.sup.freeReported ∧ t.sup.dirtyReported = s.sup.dirtyReported ∧
    (∀ n, n ≠ 0 → n ≠ 1 → n ≠ 7 → t.sup.flags.getLsbD n = s.sup.flags.getLsbD n) ∧
    t.reclaimer.hand = s.reclaimer.hand ∧ t.reclaimer.noProgress = s.reclaimer.noProgress ∧
    t.reclaimer.idleRevolution = s.reclaimer.idleRevolution ∧
    t.spindle.startFailed = s.spindle.startFailed ∧ t.spindle.retryTimer = s.spindle.retryTimer ∧
    untimed t.mover.ctx0 = untimed s.mover.ctx0 ∧ untimed t.mover.ctx1 = untimed s.mover.ctx1 ∧
    t.mover.failure = s.mover.failure ∧
    (s.stalls = false → t.scanner = s.scanner ∧ t.sup.flags.getLsbD 7 = s.sup.flags.getLsbD 7) ∧
    (∀ e c raised, s.scanner = .scanning e c (.stalled raised) →
      t.scanner = .scanning e c (if full then .stalled raised else if limited then .stalled true else .none) ∧
      t.sup.flags.getLsbD 7 = (s.sup.flags.getLsbD 7 || (!full && limited && !raised))) ∧
    (s.link.headHold = none → t.link = s.link ∧ t.commands = s.commands)

/-- What the end of an event judges on the counts and for the Reclaimer. The crossing detectors (R155): the current
side is BELOW while the free count is below L, ABOVE while the dirty count is at or above Dh, and neither while S is
0; a current side that changes and leaves the reported side sets the detector's flag. The EVICT and FORCED duties
(R148): each turns on beyond its one mark, off at its other, and keeps its value between; they are not judged while S
is 0 or Reclaimer is held, and in no other case does IDLE stay on with a dirty count of 0, a spindle that is not
RUNNING or a part that is not ONLINE (R149). The hand (R150): STOPPED with no duty; WAITING or PAUSED as long as the
duty set stands (R152, R154); else MOVING in ONLINE with Reclaimer not held, and STOPPED elsewhere. The idle-flush
timer (R149): stopped while its condition does not hold or IDLE is on, loaded with the stored delay in the event in
which the condition begins, and else as it was (log entry 10). -/
def Obligations.EventEndCounts : Prop :=
  ∀ b s : State,
    let below : Bool := s.map.slotCount != 0 && s.map.freeCount < s.params.markL
    let above : Bool := s.map.slotCount != 0 && s.params.markDh ≤ s.map.dirtyCount
    let t := settle b s
    let moves : Prop := s.sup.mode = .online ∧ s.held .reclaimer = false
    let idleFlush (u : State) : Prop := u.sup.mode = .online ∧ u.spindle.state = .running ∧ u.disk.list = [] ∧
      moverUsesDisk u = false ∧ u.held .reclaimer = false
    t.sup.freeBelow = below ∧ t.sup.dirtyAbove = above ∧
    t.sup.freeReported = s.sup.freeReported ∧ t.sup.dirtyReported = s.sup.dirtyReported ∧
    t.sup.flags.getLsbD 0 =
      (s.sup.flags.getLsbD 0 || (below != s.sup.freeBelow && below != s.sup.freeReported)) ∧
    t.sup.flags.getLsbD 1 =
      (s.sup.flags.getLsbD 1 || (above != s.sup.dirtyAbove && above != s.sup.dirtyReported)) ∧
    (s.map.slotCount ≠ 0 → s.held .reclaimer = false →
      t.reclaimer.duties.evict = (if s.map.freeCount < s.params.markL then true
        else if s.params.markH ≤ s.map.freeCount then false else s.reclaimer.duties.evict) ∧
      t.reclaimer.duties.forced = (if s.params.markDh ≤ s.map.dirtyCount then true
        else if s.map.dirtyCount ≤ s.params.markDr then false else s.reclaimer.duties.forced) ∧
      t.reclaimer.duties.idle = (s.reclaimer.duties.idle && s.map.dirtyCount != 0 &&
        t.spindle.state == .running && s.sup.mode == .online)) ∧
    (s.map.slotCount = 0 ∨ s.held .reclaimer = true → t.reclaimer.duties = s.reclaimer.duties) ∧
    (t.reclaimer.duties.any = false → t.reclaimer.condition = .stopped) ∧
    (t.reclaimer.duties.any = true →
      (s.reclaimer.condition = .waiting ∨ s.reclaimer.condition = .paused → t.reclaimer.duties = s.reclaimer.duties →
        t.reclaimer.condition = s.reclaimer.condition) ∧
      (s.reclaimer.condition = .moving ∨ s.reclaimer.condition = .stopped ∨ t.reclaimer.duties ≠ s.reclaimer.duties →
        (moves → t.reclaimer.condition = .moving) ∧ (¬ moves → t.reclaimer.condition = .stopped))) ∧
    (¬ idleFlush t ∨ t.reclaimer.duties.idle = true → t.reclaimer.idleFlushTimer = none) ∧
    (idleFlush t → t.reclaimer.duties.idle = false →
      (idleFlush b → t.reclaimer.idleFlushTimer = s.reclaimer.idleFlushTimer) ∧
      (¬ idleFlush b → t.reclaimer.idleFlushTimer = some (s.params.idleFlushDelay * 10)))

/-- What the end of an event judges for the spindle. A standing need is a WAITING disk piece, one SENT while the
spindle is not RUNNING, a dirty count at or above Dh in ONLINE with the spindle not RUNNING, or a SPIN UP that waits
(R100). It makes a STOPPED spindle start, if the Disk Port is READY and no retry delay runs, and sets restart-pending
while STOPPING (R101); without a need a STOPPED spindle stays so. A pending SPIN DOWN's STOP is sent by the first
event that leaves the spindle RUNNING with the Disk Port's list empty and no context using the disk, and else the SPIN
DOWN stays pending (R109). With the spindle RUNNING and no SPIN DOWN pending, the idle timer runs while the idle
condition holds, from the full delay in the event in which it begins, and is stopped otherwise (R106). A SPIN UP that
holds the head completes at RUNNING, at a failed start or a FAULTED Disk Port, and a SPIN DOWN when the spindle has
become STOPPED, with the spindle state, or with STOPPED after a HALT or fault (log entry 11), and the start-failed
flag (R108, R109). -/
def Obligations.EventEndSpindle : Prop :=
  ∀ b s : State,
    let t := settle b s
    let dirtyHigh : Prop := s.sup.mode = .online ∧ s.spindle.state ≠ .running ∧ s.params.markDh ≤ s.map.dirtyCount
    let need : Prop := (∃ x ∈ s.disk.list, x.state = .waiting) ∨
      (s.spindle.state ≠ .running ∧ ∃ x ∈ s.disk.list, x.state = .sent) ∨ dirtyHigh ∨
      (∃ tag, s.link.headHold = some ⟨tag, .spinUp⟩)
    let completes (tag : Nat) (state : SpindleState) : Prop :=
      t.link = { s.link with
        headHold := none
        sent := s.link.sent ++ [⟨tag, .good, none, .fields [some state.code, some s.spindle.startFailed.toNat]⟩] } ∧
      t.commands = s.commands.filter (fun x => x.tag != tag)
    let stands : Prop := t.link = s.link ∧ t.commands = s.commands
    (need →
      (s.spindle.state = .stopped → s.disk.status = .ready → s.spindle.retryTimer = none →
        t.spindle.state = .starting ∧ t.disk.sent = s.disk.sent ++ [.start] ∧
        t.spindle.startTimer = some (s.params.startLimit * 1000)) ∧
      (s.spindle.state = .stopping →
        t.spindle.state = .stopping ∧ t.spindle.restartPending = true)) ∧
    (s.spindle.state = .stopped → ¬ need ∨ s.disk.status ≠ .ready ∨ s.spindle.retryTimer ≠ none →
      t.spindle.state = .stopped ∧ t.disk.sent = s.disk.sent) ∧
    (s.spindle.state = .stopping → ¬ need → t.spindle.restartPending = s.spindle.restartPending) ∧
    (s.spindle.state = .starting → t.spindle.state = .starting ∧ t.disk.sent = s.disk.sent) ∧
    (s.spindle.state = .running → s.spindle.pendingSpinDown = true →
      (s.disk.list = [] → moverUsesDisk s = false →
        t.spindle.state = .stopping ∧ t.disk.sent = s.disk.sent ++ [.stop] ∧ t.spindle.pendingSpinDown = false ∧
        t.spindle.idleTimer = none ∧ t.spindle.startTimer = some (s.params.startLimit * 1000)) ∧
      (s.disk.list ≠ [] ∨ moverUsesDisk s = true →
        t.spindle.state = .running ∧ t.disk.sent = s.disk.sent ∧ t.spindle.pendingSpinDown = true)) ∧
    (s.spindle.pendingSpinDown = false → s.spindle.state = .running →
      t.spindle.state = .running ∧ t.disk.sent = s.disk.sent ∧
      (s.disk.list = [] → moverUsesDisk s = false → s.params.idleDelay ≠ 0 → s.held .spindleAutoStop = false →
        t.spindle.idleTimer = some (s.spindle.idleTimer.getD (s.params.idleDelay * 1000))) ∧
      (s.disk.list ≠ [] ∨ moverUsesDisk s = true ∨ s.params.idleDelay = 0 ∨ s.held .spindleAutoStop = true →
        t.spindle.idleTimer = none)) ∧
    (∀ tag, s.link.headHold = some ⟨tag, .spinUp⟩ →
      let ended : Prop := t.spindle.state = .running ∨ s.disk.status = .faulted ∨
        (t.spindle.state = .stopped ∧ s.spindle.retryTimer ≠ none)
      (ended → completes tag t.spindle.state) ∧ (¬ ended → stands)) ∧
    (∀ tag, s.link.headHold = some ⟨tag, .spinDown .stopped⟩ → completes tag t.spindle.state) ∧
    (∀ tag, s.link.headHold = some ⟨tag, .spinDown .halted⟩ → completes tag .stopped) ∧
    (∀ tag, s.link.headHold = some ⟨tag, .spinDown .waiting⟩ → stands)

/-! ### Router -/

/-- A TRIM portion (R73, R67): O leaves the valid, dirty and redirty sets of a bound chunk's slot, no piece is made
and no access is reported; the cursor moves to the first sector after the portion, and with the last portion the
command completes at once with its merged status (R79). -/
def Obligations.RouteTrim : Prop :=
  ∀ (s : State) (r : CommandRec) (o : AccessOrder), frontCommand s = some r → r.kind = .trim → fallbackFirst s = false →
    let n := min (256 - r.cursor % 256) (r.lba + r.count - r.cursor)
    let O := rangeSet (r.cursor % 256) n
    let u : State := match s.map.bound (r.cursor / 256) with
      | some (i, q) => putSlot i { q with
          valid := q.valid &&& ~~~O, dirty := q.dirty &&& ~~~O, redirty := q.redirty &&& ~~~O } s
      | none => s
    (r.cursor + n < r.lba + r.count → exec (.routePortion o) s = .next (settle s { u with
      commands := s.commands.map (fun x =>
        if x.tag = r.tag then { x with cursor := r.cursor + n, routingDone := false } else x) })) ∧
    (r.lba + r.count ≤ r.cursor + n → r.outstanding = 0 → r.fallbackList = [] →
      exec (.routePortion o) s = .next (settle s { u with
        commands := s.commands.filter (fun x => x.tag != r.tag)
        routing := s.routing.filter (fun t => t != r.tag)
        link := { s.link with sent := s.link.sent ++ [⟨r.tag, .media r.status, r.errorLba, .none⟩] } }))

/-- A portion placed on the disk whole (R69, R71, R84): in ONLINE a READ of an unbound chunk, or a WRITE of one that
is not absorbed or finds no FREE slot; in FLASH_LOST a WRITE of any chunk, whose O leaves the three sets of a bound
chunk's slot, and a READ of any chunk none of whose offsets of O are dirty. One disk piece covers O, with the
command's buffer reference and the portion's buffer position; it takes a free record, joins the end of the Disk Port's
list and is sent at once where the port may send (R67, R75, R87). The Disk Port is not FAULTED here, and no retry
delay runs. A READ in FLASH_LOST with a dirty offset in O makes no piece and merges FLASH_UNAVAILABLE with the LBA of
the lowest such offset (R84); the command goes on with its next portion, or completes where this was its last
condition (R79). -/
def Obligations.RouteDiskPortion : Prop :=
  ∀ (s : State) (r : CommandRec) (o : AccessOrder), frontCommand s = some r → fallbackFirst s = false →
    let n := min (256 - r.cursor % 256) (r.lba + r.count - r.cursor)
    let O := rangeSet (r.cursor % 256) n
    let last : Bool := r.lba + r.count ≤ r.cursor + n
    let chunk := r.cursor / 256
    (∀ u : State, freeRecords s ≠ 0 → s.disk.status ≠ .faulted → s.spindle.retryTimer = none →
      ((s.sup.mode ≠ .flashLost ∧ s.map.bound chunk = none ∧ u = reportedFirst o r s ∧
          (r.kind = .read ∨ r.kind = .write ∧ (absorbs s r = false ∨ s.map.lowestFree = none))) ∨
        (s.sup.mode = .flashLost ∧ s.map.bound chunk = none ∧ u = s ∧ (r.kind = .read ∨ r.kind = .write)) ∨
        (s.sup.mode = .flashLost ∧ r.kind = .read ∧ u = s ∧
          ∃ i q, s.map.bound chunk = some (i, q) ∧ q.dirty &&& O = 0#256) ∨
        (s.sup.mode = .flashLost ∧ r.kind = .write ∧ ∃ i q, s.map.bound chunk = some (i, q) ∧ u = putSlot i { q with
          valid := q.valid &&& ~~~O, dirty := q.dirty &&& ~~~O, redirty := q.redirty &&& ~~~O } s)) →
      ∃ id ∈ freeIds s, exec (.routePortion o) s = .next (settle s { u with
        disk := joined s.disk ⟨id, .command r.tag, if r.kind = .read then .read else .write, .disk r.cursor, n,
          .host r.buffer (r.cursor - r.lba), false, .waiting, none⟩ (maySend .disk s) (pieceLimit s .disk)
        commands := s.commands.map (fun x => if x.tag = r.tag then { x with
          outstanding := x.outstanding + 1, cursor := r.cursor + n, routingDone := last } else x)
        routing := if last then s.routing.filter (fun t => t != r.tag) else s.routing
        accesses := inTransit o r (reportedFirst o r s)
        choice := s.choice + 1 })) ∧
    (∀ i q k, s.sup.mode = .flashLost → r.kind = .read → s.map.bound chunk = some (i, q) →
      (q.dirty &&& O).getLsbD k = true → (∀ m, m < k → (q.dirty &&& O).getLsbD m = false) →
      let lba := lowerLba r.errorLba (some (chunk * 256 + k))
      (last = false → exec (.routePortion o) s = .next (settle s { s with
        commands := s.commands.map (fun x => if x.tag = r.tag then { x with
          status := x.status.worse .flashUnavailable, errorLba := lowerLba x.errorLba (some (chunk * 256 + k))
          cursor := r.cursor + n, routingDone := false } else x) })) ∧
      (last = true → r.outstanding = 0 → r.fallbackList = [] → exec (.routePortion o) s = .next (settle s { s with
        commands := s.commands.filter (fun x => x.tag != r.tag)
        routing := s.routing.filter (fun t => t != r.tag)
        link := { s.link with
          sent := s.link.sent ++ [⟨r.tag, .media (r.status.worse .flashUnavailable), lba, .none⟩] } })))

/-- A WRITE portion placed in flash in ONLINE (R70, R71, R12): into the slot of a bound chunk, whose valid and dirty
sets gain O, and its redirty set while FLUSHING; or absorbed into the lowest FREE slot, bound RESIDENT with valid =
dirty = O and the pinned flag from the chunk. One flash WRITE piece covers O; it raises the inflight count and sets
referenced (R6, R7). -/
def Obligations.RouteFlashWrite : Prop :=
  ∀ (s : State) (r : CommandRec) (o : AccessOrder) (i : Nat) (w : SlotRec), frontCommand s = some r →
    fallbackFirst s = false → r.kind = .write → s.sup.mode = .online → freeRecords s ≠ 0 → s.flash.status ≠ .faulted →
    let n := min (256 - r.cursor % 256) (r.lba + r.count - r.cursor)
    let O := rangeSet (r.cursor % 256) n
    let last : Bool := r.lba + r.count ≤ r.cursor + n
    ((∃ q, s.map.bound (r.cursor / 256) = some (i, q) ∧ w = { q with
        valid := q.valid ||| O, dirty := q.dirty ||| O,
        redirty := if q.state = .flushing then q.redirty ||| O else q.redirty }) ∨
      (s.map.bound (r.cursor / 256) = none ∧ absorbs s r = true ∧ s.map.lowestFree = some i ∧ w = {
        state := .resident, chunk := some (r.cursor / 256), valid := O, dirty := O, redirty := 0#256, referenced := true,
        pinned := chunkIn s .pin (r.cursor / 256), queued := false, inflight := 0 })) →
    ∃ id ∈ freeIds s, exec (.routePortion o) s = .next (settle s {
      modifySlot i (fun q => { q with inflight := q.inflight + 1, referenced := true })
        (putSlot i w (reportedFirst o r s)) with
      flash := joined s.flash ⟨id, .command r.tag, .write, .flash i (r.cursor % 256), n,
        .host r.buffer (r.cursor - r.lba), false, .waiting, none⟩ (s.flash.status == .ready) (s.params.flashLimit * 10)
      commands := s.commands.map (fun x => if x.tag = r.tag then { x with
        outstanding := x.outstanding + 1, cursor := r.cursor + n, routingDone := last } else x)
      routing := if last then s.routing.filter (fun t => t != r.tag) else s.routing
      accesses := inTransit o r (reportedFirst o r s)
      choice := s.choice + 1 })

/-- A READ portion of a bound chunk in ONLINE (R69). The split: each piece is a READ of consecutive offsets of O, from
flash where they are valid and from disk where they are not, at the buffer position of its first sector; every offset
of O is in a piece; the pieces are in ascending offset order; and the runs are maximal, for of two pieces where one
ends at the other's first offset, one is from flash and one from disk. A piece's first offset is that of its slot or of
its LBA in the chunk. ROUTE_PORTION makes them all in one event (R67, R75): each takes a free record of its own (which
one is log entry 4) and joins the end of its port's list in that order, sent where the port sends (R87); the slot's
inflight count rises by the flash pieces, which set referenced (R6, R7); no other part of the slot changes. The access
report may come first or last (log entry 6). The portion is not empty, its pieces find enough free records, both ports
are not FAULTED and no retry delay runs. -/
def Obligations.ReadPortionSplit : Prop :=
  (∀ (r : CommandRec) (i : Nat) (valid : OffsetSet),
    let base := r.cursor / 256 * 256
    let O := rangeSet (r.cursor % 256) (min (256 - r.cursor % 256) (r.lba + r.count - r.cursor))
    let first (p : PieceSpec) : Nat := match p.target with
      | .flash _ f => f
      | .disk lba => lba - base
      | .none => 0
    (∀ p ∈ readPieces r i valid, p.op = .read ∧ 1 ≤ p.count ∧
      p.buffer = .host r.buffer (base + first p - r.lba) ∧
      (∀ k, first p ≤ k → k < first p + p.count → O.getLsbD k = true ∧ (valid.getLsbD k = true ↔ p.port = .flash)) ∧
      (p.port = .flash → p.target = .flash i (first p)) ∧ (p.port = .disk → p.target = .disk (base + first p))) ∧
    (∀ k, O.getLsbD k = true → ∃ p ∈ readPieces r i valid, first p ≤ k ∧ k < first p + p.count) ∧
    (readPieces r i valid).Pairwise (fun p q => first p + p.count ≤ first q) ∧
    (∀ p ∈ readPieces r i valid, ∀ q ∈ readPieces r i valid, first p + p.count = first q → p.port ≠ q.port)) ∧
  (∀ (s : State) (r : CommandRec) (o : AccessOrder) (i : Nat) (q : SlotRec), frontCommand s = some r →
    fallbackFirst s = false → r.kind = .read → s.sup.mode = .online → s.map.bound (r.cursor / 256) = some (i, q) →
    r.cursor < r.lba + r.count → (readPieces r i q.valid).length ≤ freeRecords s →
    s.flash.status ≠ .faulted → s.disk.status ≠ .faulted → s.spindle.retryTimer = none →
    let made := readPieces r i q.valid
    let n := min (256 - r.cursor % 256) (r.lba + r.count - r.cursor)
    let last : Bool := r.lba + r.count ≤ r.cursor + n
    let flashMade := made.filter (fun m => m.port == .flash)
    let piece (m : PieceSpec) (id : Nat) : Piece :=
      ⟨id, .command r.tag, m.op, m.target, m.count, m.buffer, false, .waiting, none⟩
    let joins (p : Port) (ids : List Nat) : PortUnit := (made.zip ids).foldl (fun v a =>
      if a.1.port = p then joined v (piece a.1 a.2) (maySend p s) (pieceLimit s p) else v) (s.port p)
    ∃ ids : List Nat, ids.length = made.length ∧ ids.Nodup ∧ (∀ id ∈ ids, id ∈ freeIds s) ∧
      exec (.routePortion o) s = .next (settle s {
        modifySlot i (fun w => { w with
          inflight := w.inflight + flashMade.length, referenced := w.referenced || !flashMade.isEmpty })
          (reportedFirst o r s) with
        flash := joins .flash ids
        disk := joins .disk ids
        commands := s.commands.map (fun x => if x.tag = r.tag then { x with
          outstanding := x.outstanding + made.length, cursor := r.cursor + n, routingDone := last } else x)
        routing := if last then s.routing.filter (fun t => t != r.tag) else s.routing
        accesses := inTransit o r (reportedFirst o r s)
        choice := s.choice + made.length }))

/-- A SYNC is routed in one event (R74): a Flash Port piece in ONLINE, a Disk Port piece while the spindle is RUNNING,
taken together from the pool; with no piece it completes at once. Neither port is FAULTED here, and no retry delay
runs. -/
def Obligations.RouteSync : Prop :=
  ∀ (s : State) (r : CommandRec), frontCommand s = some r → r.kind = .sync → fallbackFirst s = false →
    r.outstanding = 0 → r.fallbackList = [] → s.flash.status ≠ .faulted → s.disk.status ≠ .faulted →
    s.spindle.retryTimer = none →
    let piece (id : Nat) : Piece := ⟨id, .command r.tag, .sync, .none, 0, .none, false, .waiting, none⟩
    let routed (k : Nat) (u : State) : State := { u with
      commands := s.commands.map (fun x =>
        if x.tag = r.tag then { x with outstanding := x.outstanding + k, routingDone := true } else x)
      routing := s.routing.filter (fun t => t != r.tag)
      choice := s.choice + k }
    (s.sup.mode ≠ .online → s.spindle.state ≠ .running → exec .routeSync s = .next (settle s { s with
      commands := s.commands.filter (fun x => x.tag != r.tag)
      routing := s.routing.filter (fun t => t != r.tag)
      link := { s.link with sent := s.link.sent ++ [⟨r.tag, .media r.status, r.errorLba, .none⟩] } })) ∧
    (s.sup.mode = .online → s.spindle.state ≠ .running → freeRecords s ≠ 0 → ∃ id ∈ freeIds s,
      exec .routeSync s = .next (settle s (routed 1 { s with
        flash := joined s.flash (piece id) (maySend .flash s) (pieceLimit s .flash) }))) ∧
    (s.sup.mode ≠ .online → s.spindle.state = .running → freeRecords s ≠ 0 → ∃ id ∈ freeIds s,
      exec .routeSync s = .next (settle s (routed 1 { s with
        disk := joined s.disk (piece id) (maySend .disk s) (pieceLimit s .disk) }))) ∧
    (s.sup.mode = .online → s.spindle.state = .running → 2 ≤ freeRecords s →
      ∃ id ∈ freeIds s, ∃ id' ∈ freeIds s, id' ≠ id ∧
      exec .routeSync s = .next (settle s (routed 2 { s with
        flash := joined s.flash (piece id) (maySend .flash s) (pieceLimit s .flash)
        disk := joined s.disk (piece id') (maySend .disk s) (pieceLimit s .disk) })))

/-- A run that waits on a command's fallback list gets its disk READ piece when a record is free (R80): the run's LBA
and count, the command's buffer reference and the run's buffer position; its id joins the command's fallback pieces.
With no run waiting or no free record nothing is made. -/
def Obligations.FallbackPieceMade : Prop :=
  ∀ s : State,
    (fallbackFirst s = false → exec .fallbackPieceMake s = .next s) ∧
    (∀ (r : CommandRec) (before behind : List CommandRec) (run : Nat × Nat),
      s.commands = before ++ r :: behind → r.fallbackList = [run] →
      (∀ x ∈ before ++ behind, x.fallbackList = [] ∧ x.tag ≠ r.tag) →
      freeRecords s ≠ 0 → s.disk.status ≠ .faulted → s.spindle.retryTimer = none →
      ∃ id ∈ freeIds s, exec .fallbackPieceMake s = .next (settle s { s with
        disk := joined s.disk ⟨id, .command r.tag, .read, .disk run.1, run.2, .host r.buffer (run.1 - r.lba), false,
          .waiting, none⟩ (maySend .disk s) (pieceLimit s .disk)
        commands := before ++ { r with
          fallbackList := [], fallbackPieces := r.fallbackPieces ++ [id], outstanding := r.outstanding + 1 } :: behind
        choice := s.choice + 1 }))

/-! ### Heat Unit -/

/-- The Heat Unit takes the oldest reported access whole. A region with an entry (R31): the score rises by the
increment, saturating at 65,535, and the positions join the touched set, for class NORMAL and BOOST only; a PROMOTED
entry posts Hot-Fills (R34). A region without one (R32): an increment of 0 changes nothing, and another takes the
lowest-indexed unused entry, TRACKED with score = the increment; in a full table the cold-victim register decides
(R33). With no access in transit, or with Heat held, nothing is scored (log entries 1, 6). -/
def Obligations.AccessTaken : Prop :=
  (∀ s : State, s.accesses = [] → exec .access s = .next s) ∧
  (∀ (s : State) (a : Access) (rest : List Access), s.accesses = a :: rest → s.held .heat = true →
    exec .access s = .next { s with accesses := rest }) ∧
  (∀ (s : State) (a : Access) (rest : List Access), s.accesses = a :: rest → s.held .heat = false →
    let weighted := (if a.isWrite then s.params.writeWeight else s.params.readWeight) * min 8 ((a.sectors + 31) / 32)
    let inc := match a.cls with
      | .normal => weighted
      | .boost => 2 * weighted
      | .pin | .bypass => 0
    let scored : Bool := a.cls = .normal ∨ a.cls = .boost
    let t : State := { s with accesses := rest }
    let fresh : HeatEntry := ⟨a.region, inc, .tracked, 0, a.positions⟩
    (∀ (i : Nat) (e : HeatEntry), s.heatEntry i = some e → e.region = a.region →
      (∀ (j : Nat) (f : HeatEntry), j < i → s.heatEntry j = some f → f.region ≠ a.region) →
      let changed : State := { t with heat := { s.heat with entries := s.heat.entries.set i (some { e with
        score := if scored then min 65535 (e.score + inc) else e.score
        touched := if scored then e.touched ||| a.positions else e.touched }) } }
      (e.state ≠ .promoted ∨ scored = false → exec .access s = .next changed) ∧
      (e.state = .promoted → scored = true → s.sup.mode ≠ .loading →
        exec .access s = .next (posted (hotFills a.region a.positions s) changed))) ∧
    ((∀ (j : Nat) (f : HeatEntry), s.heatEntry j = some f → f.region ≠ a.region) →
      (inc = 0 → exec .access s = .next t) ∧
      (∀ i, inc ≠ 0 → s.heat.entries[i]? = some none → (∀ j, j < i → s.heatEntry j ≠ none) →
        exec .access s = .next { t with heat := { s.heat with
          entries := s.heat.entries.set i (some fresh), usedCount := s.heat.usedCount + 1 } }) ∧
      (inc ≠ 0 → (∀ j : Nat, s.heat.entries[j]? ≠ some none) →
        (s.heat.victim = none → exec .access s = .next t) ∧
        (∀ (i : Nat) (e : HeatEntry), s.heat.victim = some i → s.heatEntry i = some e →
          (e.state = .tracked → e.score < s.params.admitBar →
            exec .access s = .next { t with heat := { s.heat with
              entries := s.heat.entries.set i (some fresh), victim := none } }) ∧
          (e.state ≠ .tracked ∨ s.params.admitBar ≤ e.score →
            exec .access s = .next { t with heat := { s.heat with victim := none } })))))

/-- A sweep visit (R36 to R43), an expiry of the tick timer: the entry at the pointer decays, and is released with a
demotion hint at score 0; otherwise it goes through candidacy, confirmation with Hot-Fill postings in ONLINE, demotion
with its hint, and the cold-victim update. The pointer then advances and the timer restarts. -/
def Obligations.SweepVisit : Prop :=
  ∀ s : State,
    let i := s.heat.sweep
    let next := if i < 1023 then i + 1 else 0
    let c := s.params.sweepCode
    let tick := some (if c ≤ 127 then c + 1 else (c - 126) * 128)
    let others (t : State) : Prop := t.link = s.link ∧ t.commands = s.commands ∧ t.routing = s.routing ∧
      t.ranges = s.ranges ∧ t.walk = s.walk ∧ t.scanner = s.scanner ∧ t.streams = s.streams ∧ t.accesses = s.accesses ∧
      t.mover = s.mover ∧ t.flash = s.flash ∧ t.disk = s.disk ∧ t.spindle = s.spindle ∧ t.params = s.params
    (s.heat.tick = none → exec .sweepVisit s = .next s) ∧
    (s.heat.tick ≠ none →
      (s.heatEntry i = none →
        exec .sweepVisit s = .next { s with heat := { s.heat with sweep := next, tick := tick } }) ∧
      (∀ e, s.heatEntry i = some e →
        let v := e.score - max 1 (e.score / 2 ^ s.params.decayShift)
        (v = 0 → ∃ t, exec .sweepVisit s = .next t ∧ others t ∧ t.arbiter = s.arbiter ∧ t.sup = s.sup ∧
          t.map = hinted e.region e.touched s.map ∧ t.heat = {
            entries := s.heat.entries.set i none
            usedCount := s.heat.usedCount - 1
            candidateCount := s.heat.candidateCount - (if e.state = .candidate then 1 else 0)
            sweep := next
            tick := tick
            victim := if s.heat.victim = some i then none else s.heat.victim }) ∧
        (v ≠ 0 →
          let limit := if s.params.candidateMode = .single then 1 else 8
          let depth := if isBoostRegion s e.region then 1 else s.params.confirmDepth
          let st : HeatState := match e.state with
            | .tracked => if s.params.tp ≤ v ∧ s.heat.candidateCount < limit then .candidate else .tracked
            | .candidate =>
              if s.params.tp ≤ v then (if depth ≤ e.confirm + 1 then .promoted else .candidate) else .tracked
            | .promoted => if v < s.params.td then .tracked else .promoted
          let confirm := match e.state, st with
            | .candidate, .candidate => e.confirm + 1
            | .candidate, _ => 0
            | .tracked, .candidate => 0
            | _, _ => e.confirm
          let jobs : List Job :=
            if e.state = .candidate ∧ st = .promoted ∧ s.sup.mode = .online then hotFills e.region e.touched s else []
          let refused : Bool := e.state = .tracked ∧ s.params.tp ≤ v ∧ limit ≤ s.heat.candidateCount
          let colder (j : Nat) : Bool := j ≠ i ∧ (s.heatEntry j).any (fun w => v < w.score)
          ∃ t, exec .sweepVisit s = .next t ∧ others t ∧ t.arbiter = (posted jobs s).arbiter ∧
            t.sup = (if refused then (setFlag .candidateFull s).sup else (posted jobs s).sup) ∧
            t.map = (if st = .tracked ∧ v < s.params.td then hinted e.region e.touched s.map else s.map) ∧
            t.heat = {
              entries := s.heat.entries.set i (some { e with score := v, state := st, confirm := confirm })
              usedCount := s.heat.usedCount
              candidateCount := s.heat.candidateCount + (if st = .candidate then 1 else 0) -
                (if e.state = .candidate then 1 else 0)
              sweep := next
              tick := tick
              victim := if st = .tracked then
                  (match s.heat.victim with
                    | none => some i
                    | some j => if colder j then some i else some j)
                else s.heat.victim })))

/-! ### Retag walk and Pin Scanner -/

/-- A visit of the retag walk (R55): a FREE slot is passed over; another gets its pinned flag from the Range Table,
and loses its referenced flag in a BYPASS range. The visit of slot S − 1 ends the walk (R57): LOAD RANGE completes
with the pinned count where it still holds the head, PIN_OVER is set at or above P, and the Pin Scanner restarts under
the conditions of R59. With S = 0 the one visit ends the walk (log entry 26); without a walk in force nothing is
visited (log entry 1). -/
def Obligations.RetagVisit : Prop :=
  ∀ s : State,
    (s.walk = none → exec .retagVisit s = .next s) ∧
    (∀ i, s.walk = some i →
      let r := s.slot i
      let v : State := match r.chunk with
        | some c => if r.state = .free then s else putSlot i { r with
            pinned := chunkIn s .pin c, referenced := r.referenced && !chunkIn s .bypass c } s
        | none => s
      (i + 1 < s.map.slotCount → exec .retagVisit s = .next (settle s { v with walk := some (i + 1) })) ∧
      (s.map.slotCount ≤ i + 1 →
        let ended : State := { v with
          walk := none
          sup := if s.params.pinLimit ≤ v.map.pinnedCount then (setFlag .pinOver v).sup else v.sup
          scanner := if s.sup.mode = .online ∧ s.held .pinScanner = false then
              (match pinEntryFrom s 0 with
                | some (k, e) => .scanning k (e.first / 256) .none
                | none => .idle)
            else .idle }
        (∀ tag, s.link.headHold = some ⟨tag, .loadRange⟩ → exec .retagVisit s = .next (settle s { ended with
          link := { s.link with
            headHold := none
            sent := s.link.sent ++ [⟨tag, .good, none, .fields [some v.map.pinnedCount]⟩] }
          commands := s.commands.filter (fun x => x.tag != tag) })) ∧
        ((∀ tag, s.link.headHold ≠ some ⟨tag, .loadRange⟩) → exec .retagVisit s = .next (settle s ended)))) ∧
    (∀ i, (∀ k e, pinEntryFrom s i = some (k, e) ↔ i ≤ k ∧ s.ranges[k]? = some (some e) ∧ e.cls = .pin ∧
      ∀ j q, i ≤ j → j < k → s.ranges[j]? = some (some q) → q.cls ≠ .pin))

/-- The Pin Scanner's examination (R60 to R62) passes over its chunk, stalls at it, setting PIN_OVER where the
pin-limit condition holds, or posts a Pin-Fill; the cursor then moves on, except in a stall. An IDLE or stalled
scanner examines nothing. -/
def Obligations.PinScannerExamination : Prop :=
  ∀ s : State,
    ((∀ e c, s.scanner ≠ .scanning e c .none) → exec .pinScannerExamination s = .next s) ∧
    (∀ (e c : Nat) (r : RangeEntry), s.scanner = .scanning e c .none → s.ranges[e]? = some (some r) →
      let after : Scanner :=
        if c < r.last / 256 then .scanning e (c + 1) .none
        else match pinEntryFrom s (e + 1) with
          | some (k, q) => .scanning k (q.first / 256) .none
          | none => .idle
      let waiting := s.arbiter.queues.pinFill.length
      let limited : Bool := s.params.pinLimit ≤ s.map.pinnedCount + waiting
      let passed : Prop := (∃ i q, s.map.bound c = some (i, q) ∧ (q.valid = BitVec.allOnes 256 ∨ q.queued = true)) ∨
        chunkIn s .bypass c = true ∨ anyJobNames s c = true
      (passed → exec .pinScannerExamination s = .next { s with scanner := after }) ∧
      (¬ passed → limited = true ∨ 16 ≤ waiting → exec .pinScannerExamination s = .next { s with
        scanner := .scanning e c (.stalled limited), sup := if limited then (setFlag .pinOver s).sup else s.sup }) ∧
      (¬ passed → limited = false → waiting < 16 → s.sup.mode ≠ .loading →
        exec .pinScannerExamination s = .next { s with
          scanner := after
          arbiter := { s.arbiter with queues := { s.arbiter.queues with
            pinFill := s.arbiter.queues.pinFill ++ [⟨.fill, .chunk c⟩] } } }))

/-! ### Job Arbiter and Mover -/

/-- The class that a grant serves (R121): in ONLINE, with Mover not held, a free context and no class SUSPENDED or
SUSPENDING, it is the eligible class of highest priority, and it outranks every class in service. With no such class
nothing is granted. -/
def Obligations.GrantClass : Prop :=
  ∀ s : State,
    (∀ k, nextGrant s = some k ↔
      s.sup.mode = .online ∧ s.held .mover = false ∧ (s.mover.ctx0 = none ∨ s.mover.ctx1 = none) ∧
      (∀ (x : JobClass) (j : Job) (c : CtxId), s.arbiter.service.get x ≠ .job .suspending j c ∧
        s.arbiter.service.get x ≠ .job .suspended j c) ∧
      eligible s k = true ∧
      (∀ x, eligible s x = true → rank s.arbiter.lowest k ≤ rank s.arbiter.lowest x) ∧
      (∀ x, s.arbiter.service.get x ≠ .none → rank s.arbiter.lowest k < rank s.arbiter.lowest x)) ∧
    (∀ k, eligible s k = true ↔
      s.arbiter.queues.get k ≠ [] ∧ s.arbiter.mask.getLsbD k.number = false ∧ s.arbiter.service.get k = .none ∧
      (k = .pinFill ∨ k = .hotFill ∨ k = .flushIdle → s.spindle.state = .running) ∧
      (∀ j, (s.arbiter.queues.get k).head? = some j → j.action = .fill → s.params.markC < s.map.freeCount)) ∧
    (nextGrant s = none → exec .grant s = .next s)

/-- A grant with both contexts free (R122, R129): the front job leaves its queue and is ACTIVE in context 0, with its
watchdog loaded (R143). A FILL of an unbound chunk (R133, R13, R134): the lowest-numbered FREE slot is bound to the
chunk, FILLING, and one disk READ of the whole chunk is issued. A FLUSH or EVICT of a dirty RESIDENT slot (R137,
R140): the slot is FLUSHING with its redirty set empty, the snapshot is the runs of its dirty set, and the flash READ
of the first run is issued. A FLUSH of a clean slot ends SKIPPED; an EVICT of one ends DONE with the slot FREE, or
FAILED, reason BUSY, where the slot is pinned or its inflight count is above 0. A Flush-Urgent or Directed grant whose
work needs the disk starts a STOPPED spindle (R100, R101). A stall of the Pin Scanner that a Pin-Fill's leaving ends
is over before the fill binds its slot: its chunk is examined afresh, and posted unless passed over (R61; that this
examination falls within the grant is log entry 9). -/
def Obligations.GrantStartsFill : Prop :=
  ∀ (s : State) (k : JobClass) (j : Job) (rest : List Job), nextGrant s = some k →
    s.mover.ctx0 = none → s.mover.ctx1 = none → s.arbiter.queues.get k = j :: rest →
    (∀ x j' c, s.arbiter.service.get x ≠ .job .active j' c) →
    let limit : Option Nat := if s.params.watchdogCode ≠ 0 then some (s.params.watchdogCode * 10) else none
    let urgent : Bool := k = .flushUrgent ∨ k = .directed
    let starts (t : State) : Prop := urgent = true → s.spindle.state = .stopped → s.disk.status = .ready →
      s.spindle.retryTimer = none → t.spindle.state = .starting ∧ t.disk.sent = s.disk.sent ++ [.start]
    (∀ (chunk i : Nat) (queue : List Job), j = ⟨.fill, .chunk chunk⟩ →
      chunkIn s .bypass chunk = false → s.map.bound chunk = none → s.map.lowestFree = some i →
      freeRecords s ≠ 0 → s.disk.status ≠ .faulted → s.spindle.retryTimer = none →
      let ends : Prop := k = .pinFill ∧ s.stalls = true ∧ rest.length < 16 ∧
        s.map.pinnedCount + rest.length < s.params.pinLimit
      let passed (c : Nat) : Prop :=
        (∃ i q, s.map.bound c = some (i, q) ∧ (q.valid = BitVec.allOnes 256 ∨ q.queued = true)) ∨
        chunkIn s .bypass c = true ∨ anyJobNames s c = true
      (¬ ends ∧ queue = rest ∨
        (∃ e c raised, s.scanner = .scanning e c (.stalled raised) ∧ ends ∧
          (passed c ∧ queue = rest ∨ ¬ passed c ∧ queue = rest ++ [⟨.fill, .chunk c⟩]))) →
      ∃ id ∈ freeIds s, ∃ t, exec .grant s = .next t ∧
        t.arbiter = { s.arbiter with
          queues := s.arbiter.queues.set k queue
          service := s.arbiter.service.set k (.job .active j .ctx0) } ∧
        t.map = s.map.put i (s.slot i) {
          state := .filling, chunk := some chunk, valid := 0#256, dirty := 0#256, redirty := 0#256, referenced := false
          pinned := chunkIn s .pin chunk, queued := true, inflight := 0 } ∧
        t.mover = { s.mover with ctx0 := some {
          cls := k, action := .fill, chunk := some chunk, slot := some i, phase := .diskRead, readSpan := some (0, 255)
          cursor := 0, snapshot := [], runIndex := 0, piece := some id, poolWait := false, abort := none
          watchdog := if s.spindle.state = .running then limit else none
          usingDisk := true, staged := 0#256 } } ∧
        t.disk.list = (joined s.disk ⟨id, .context .ctx0, .read, .disk (chunk * 256), 256, .staging .ctx0 0, false,
          .waiting, none⟩ (maySend .disk s) (pieceLimit s .disk)).list ∧
        starts t ∧ t.flash = s.flash ∧ t.params = s.params ∧ t.heat = s.heat ∧ t.ranges = s.ranges) ∧
    (∀ i : Nat, (j = ⟨.flush, .slot i⟩ ∨ ∃ c, j.action ≠ .fill ∧ j.target = .chunk c ∧ s.map.slotOf c = some i) →
      (s.slot i).state = .resident → k ≠ .pinFill →
      let r := s.slot i
      let left : State := { s with arbiter := { s.arbiter with queues := s.arbiter.queues.set k rest } }
      (∀ (q : Run) (tail : List Run), runs r.dirty = q :: tail → freeRecords s ≠ 0 → s.flash.status ≠ .faulted →
        ∃ id ∈ freeIds s, ∃ t, exec .grant s = .next t ∧
          t.arbiter = { left.arbiter with service := s.arbiter.service.set k (.job .active j .ctx0) } ∧
          t.map = (putSlot i { r with state := .flushing, redirty := 0#256 } s).map ∧
          t.mover = { s.mover with ctx0 := some {
            cls := k, action := j.action, chunk := r.chunk, slot := some i, phase := .flashRead, readSpan := none
            cursor := 0, snapshot := q :: tail, runIndex := 0, piece := some id, poolWait := false, abort := none
            watchdog := limit, usingDisk := true, staged := 0#256 } } ∧
          t.flash = joined s.flash ⟨id, .context .ctx0, .read, .flash i q.first, q.count, .staging .ctx0 q.first,
            false, .waiting, none⟩ (maySend .flash s) (pieceLimit s .flash) ∧
          starts t ∧ t.disk.list = s.disk.list ∧ t.params = s.params ∧ t.heat = s.heat ∧ t.ranges = s.ranges) ∧
      (r.dirty = 0#256 → ∃ t, exec .grant s = .next t ∧ JobEnded k left t ∧
        t.mover.ctx0 = none ∧ t.mover.ctx1 = none ∧ t.flash = s.flash ∧ t.disk.list = s.disk.list ∧
        (j.action = .flush → t.mover.failure = s.mover.failure ∧
          t.map = (putSlot i { r with queued := false, redirty := 0#256 } s).map) ∧
        (j.action = .evict → r.pinned = false → r.inflight = 0 →
          t.mover.failure = s.mover.failure ∧ t.map = (putSlot i SlotRec.free s).map) ∧
        (j.action = .evict → r.pinned = true ∨ r.inflight ≠ 0 →
          t.mover.failure = some ⟨k, .evict, r.chunk, some i, .busy, none, .evictCheck⟩ ∧
          t.sup.flags.getLsbD 4 = true ∧
          t.map = (putSlot i { r with queued := false, redirty := 0#256 } s).map)))

/-- A grant while a job is ACTIVE with a piece outstanding (R122, R123): the granted class is PENDING in the free
context, its job not started, and the ACTIVE class is asked to suspend. The queues lose the granted entry alone, but
that a Pin-Fill grant that ends a stall of the Pin Scanner may let it post its chunk (R61, log entry 9). -/
def Obligations.GrantAsksToSuspend : Prop :=
  ∀ (s : State) (k k' : JobClass) (j j' : Job) (rest : List Job) (c c' : CtxId) (x : Context) (id : Nat),
    nextGrant s = some k → s.arbiter.queues.get k = j :: rest →
    s.arbiter.service.get k' = .job .active j' c' →
    (∀ y j'' c'', y ≠ k' → s.arbiter.service.get y ≠ .job .active j'' c'') →
    s.ctx c' = some x → x.piece = some id → c ≠ c' →
    ∃ t, exec .grant s = .next t ∧
      t.arbiter = { s.arbiter with
        queues := t.arbiter.queues
        service := (s.arbiter.service.set k (.job .pending j c)).set k' (.job .suspending j' c') } ∧
      (∀ y, y ≠ .pinFill → t.arbiter.queues.get y = (s.arbiter.queues.set k rest).get y) ∧
      (k ≠ .pinFill ∨ s.stalls = false → t.arbiter.queues = s.arbiter.queues.set k rest) ∧
      t.ctx c = some (grantedContext k j (needsDisk s j)) ∧ (∃ w, t.ctx c' = some { x with watchdog := w }) ∧
      t.map = s.map ∧ t.flash = s.flash ∧ t.disk.list = s.disk.list ∧ t.params = s.params ∧ t.heat = s.heat

/-- The events of a Mover context whose job is ACTIVE. A job in pool wait issues its piece, computed afresh, when a
record is free (R131): here a FILL's disk read, of the span from the lowest to the highest offset that is not valid
(R134). A watchdog expiry with no piece outstanding ends the job FAILED, reason TIMEOUT (R144), and with a flash piece
SENT asks for its abort. A piece's completion (R131, R144), at a Mover that is not held: OK loads the watchdog, and a
FILL goes from its disk read to the flash WRITE of the lowest run still missing, and from one such run to the next or
to its end (R134, R135); a FLUSH or EVICT goes from a flash READ to the disk WRITE of the same run, whose offsets
outside the redirty set then leave the dirty set, and on to the next run, its end or its evict check (R138, R140).
Another status ends the job FAILED, with the reason of the status or TIMEOUT, and MEDIA_LOSS where a flash READ fails
on dirty data (R132, R139, R141). Ends here are those with no job SUSPENDED. A context not in pool wait, or with no
record, issues nothing, and a watchdog that does not run does not expire (log entry 1); which record is taken is log
entry 4. Two clauses are the model's readings: a SENT disk piece that completes OK, MEDIA_ERROR or NOT_READY while the
spindle is not RUNNING sets the timeout count to 0 (log entry 13), and a job whose abort cause is TIMEOUT still sets
MEDIA_LOSS at a MEDIA_ERROR, with no failing LBA (log entry 19). Not stated here: SUSPENDING jobs, the resumption of a
SUSPENDED one, expiries with a disk or WAITING piece, an OK completion for a job whose abort cause is set. -/
def Obligations.ContextEvents : Prop :=
  ∀ (s : State) (c : CtxId),
    ((∀ x, s.ctx c = some x → x.poolWait = false) ∨ freeRecords s = 0 → exec (.moverIssueRetry c) s = .next s) ∧
    (∀ (x : Context) (j : Job) (slot chunk lo hi : Nat), s.ctx c = some x → x.poolWait = true →
      s.arbiter.service.get x.cls = .job .active j c → freeRecords s ≠ 0 →
      x.phase = .diskRead → x.slot = some slot → x.chunk = some chunk → s.disk.status ≠ .faulted →
      s.spindle.retryTimer = none →
      lo ≤ hi → hi < 256 → (s.slot slot).valid.getLsbD lo = false → (s.slot slot).valid.getLsbD hi = false →
      (∀ k, k < lo → (s.slot slot).valid.getLsbD k = true) →
      (∀ k, hi < k → k < 256 → (s.slot slot).valid.getLsbD k = true) →
      ∃ id ∈ freeIds s, exec (.moverIssueRetry c) s = .next (settle s
        { setCtx c (some { x with
            readSpan := some (lo, hi), cursor := lo, piece := some id, poolWait := false }) s with
          disk := joined s.disk ⟨id, .context c, .read, .disk (chunk * 256 + lo), hi + 1 - lo, .staging c lo, false,
            .waiting, none⟩ (maySend .disk s) (pieceLimit s .disk)
          choice := s.choice + 1 })) ∧
    ((∀ x, s.ctx c = some x → x.watchdog = none) → exec (.watchdogExpiry c) s = .next s) ∧
    (∀ x : Context, s.ctx c = some x → x.watchdog ≠ none → x.abort = none →
      (∀ (j : Job) (slot : Nat), x.piece = none → s.held .mover = false →
        s.arbiter.service.get x.cls = .job .active j c → x.slot = some slot →
        (∀ y j' c', s.arbiter.service.get y ≠ .job .suspended j' c') →
        ∃ t, exec (.watchdogExpiry c) s = .next t ∧
          t.ctx c = none ∧
          t.mover.failure = some ⟨x.cls, x.action, x.chunk, some slot, .timeout, none, x.phase⟩ ∧
          t.sup.flags.getLsbD 4 = true ∧ JobEnded x.cls s t ∧
          t.map = (modifySlot slot (if x.action = .fill then SlotRec.afterFill else SlotRec.afterFlush) s).map ∧
          t.flash = s.flash ∧ t.disk.list = s.disk.list ∧ t.params = s.params) ∧
      (∀ (id : Nat) (q : Piece) (before behind : List Piece), x.piece = some id →
        s.flash.list = before ++ q :: behind → q.id = id → q.state = .sent →
        (∀ y ∈ before ++ behind, y.id ≠ id) →
        exec (.watchdogExpiry c) s = .next (settle s
          { setCtx c (some { x with watchdog := none, abort := some .timeout }) s with
            flash := { s.flash with
              list := before ++ { q with state := .aborting } :: behind
              sent := s.flash.sent ++ [.abort id] } }))) ∧
    (∀ (p : Port) (id status offset : Byte) (q : Piece) (before behind : List Piece) (x : Context) (j : Job)
      (slot chunk first : Nat), (s.port p).status = .ready → (s.port p).list = before ++ q :: behind → q.id = id.toNat →
      q.state ≠ .waiting → (∀ y ∈ before ++ behind, y.id ≠ id.toNat) → q.owner = .context c →
      q.buffer = .staging c first → s.ctx c = some x → x.slot = some slot → x.chunk = some chunk →
      s.arbiter.service.get x.cls = .job .active j c → s.held .mover = false →
      (∀ y j' c', s.arbiter.service.get y ≠ .job .suspended j' c') →
      let u : State := setPort p { s.port p with
        list := before ++ behind, timeouts := if q.state = .sent then 0 else (s.port p).timeouts } s
      let r := s.slot slot
      let run := rangeSet first q.count
      let code := s.params.watchdogCode
      let y : Context := { x with piece := none, watchdog := if code = 0 then x.watchdog else some (code * 10) }
      let issues (v : State) (z : Context) (port : Port) (op : PieceOp) (target : PieceTarget) (g : Run) : Prop :=
        ∃ id' ∈ freeIds u, exec (.pieceCompletion p id status offset) s = .next (settle s (setPort port
          (joined (v.port port) ⟨id', .context c, op, target, g.count, .staging c g.first, false, .waiting, none⟩
            (maySend port s) (pieceLimit s port))
          { setCtx c (some { z with piece := some id', poolWait := false }) v with choice := s.choice + 1 }))
      let ends (t v : State) : Prop := exec (.pieceCompletion p id status offset) s = .next t ∧ t.ctx c = none ∧
        JobEnded x.cls s t ∧
        t.map = (modifySlot slot (if x.action = .fill then SlotRec.afterFill else SlotRec.afterFlush) v).map
      (status = 0#8 → x.abort = none → freeRecords u ≠ 0 → s.flash.status ≠ .faulted → s.disk.status ≠ .faulted →
        s.spindle.retryTimer = none →
        (∀ lo hi, x.action = .fill → x.phase = .diskRead → x.readSpan = some (lo, hi) →
          let z : Context := { y with phase := .flashWrite, staged := x.staged ||| run, usingDisk := false }
          let missing := rangeSet x.cursor (hi + 1 - x.cursor) &&& ~~~r.valid
          (∀ g tail, runs missing = g :: tail →
            issues u { z with cursor := g.first + g.count } .flash .write (.flash slot g.first) g) ∧
          (runs missing = [] → ∃ t, ends t u ∧ t.mover.failure = s.mover.failure)) ∧
        (∀ lo hi, x.action = .fill → x.phase = .flashWrite → x.readSpan = some (lo, hi) → slot < s.map.slots.length →
          let v := modifySlot slot (fun w => { w with valid := w.valid ||| run }) u
          let missing := rangeSet x.cursor (hi + 1 - x.cursor) &&& ~~~(r.valid ||| run)
          (∀ g tail, runs missing = g :: tail →
            issues v { y with cursor := g.first + g.count } .flash .write (.flash slot g.first) g) ∧
          (runs missing = [] → ∃ t, ends t v ∧ t.mover.failure = s.mover.failure)) ∧
        (x.action ≠ .fill → x.phase = .flashRead → x.snapshot[x.runIndex]? = some ⟨first, q.count⟩ →
          issues u { y with phase := .diskWrite, staged := x.staged ||| run } .disk .write (.disk (chunk * 256 + first))
            ⟨first, q.count⟩) ∧
        (x.action ≠ .fill → x.phase = .diskWrite → slot < s.map.slots.length →
          let v := modifySlot slot (fun w => { w with dirty := w.dirty &&& ~~~(run &&& ~~~w.redirty) }) u
          let dirty := r.dirty &&& ~~~(run &&& ~~~r.redirty)
          (∀ g, x.snapshot[x.runIndex + 1]? = some g →
            issues v { y with phase := .flashRead, runIndex := x.runIndex + 1 } .flash .read (.flash slot g.first) g) ∧
          (x.runIndex + 1 = x.snapshot.length →
            (x.action = .flush → ∃ t, ends t v ∧ t.mover.failure = s.mover.failure) ∧
            (x.action = .evict → r.state = .flushing →
              (dirty = 0#256 → r.pinned = false → r.inflight = 0 → ∃ t, ends t (putSlot slot SlotRec.free v) ∧
                t.mover.failure = s.mover.failure) ∧
              (dirty ≠ 0#256 ∨ r.pinned = true ∨ r.inflight ≠ 0 → ∃ t, ends t v ∧ t.sup.flags.getLsbD 4 = true ∧
                t.mover.failure = some ⟨x.cls, .evict, some chunk, some slot, .busy, none, .evictCheck⟩))))) ∧
      (1 ≤ status.toNat → status.toNat ≤ 3 → x.abort ≠ some .held →
        ¬ (p = .disk ∧ q.state = .sent ∧ s.spindle.state ≠ .running ∧ status.toNat = 2) →
        let e := min offset.toNat (q.count - 1)
        let reason : FailReason :=
          if x.abort = some .timeout then .timeout
          else if status.toNat = 1 then .mediaError
          else if status.toNat = 2 then .aborted
          else if p = .flash then .flashUnavailable else .diskUnavailable
        ∃ t, ends t u ∧ t.sup.flags.getLsbD 4 = true ∧
          t.mover.failure = some ⟨x.cls, x.action, some chunk, some slot, reason,
            if reason = .mediaError then some (chunk * 256 + first + e) else none, x.phase⟩ ∧
          (x.phase = .flashRead → status.toNat = 1 → rangeSet (first + e) (q.count - e) &&& r.dirty ≠ 0#256 →
            t.sup.flags.getLsbD 8 = true)))

/-! ### Port messages and port timers -/

/-- Messages that the ports discard (R90, R92, R95, R181): "abort found nothing", a message of an unknown kind, a
completion at a port that is not READY, of a WAITING piece, with a status above 3, or whose id names neither a listed
piece nor a withheld record. A completion that names a withheld record returns it to the pool, but not at a port that
is not READY, nor with a status above 3 (log entry 25). -/
def Obligations.DiscardedMessages : Prop :=
  ∀ (s : State) (p : Port) (id status offset : Byte) (m : BitVec 192),
    let u := s.port p
    exec (.abortFoundNothing p id) s = .next s ∧
    exec (.unknownPortMessage p m) s = .next s ∧
    (u.status ≠ .ready ∨ 3 < status.toNat → exec (.pieceCompletion p id status offset) s = .next s) ∧
    ((∀ x ∈ u.list, x.id = id.toNat → x.state = .waiting) → id.toNat ∉ u.withheld →
      exec (.pieceCompletion p id status offset) s = .next s) ∧
    (u.status = .ready → status.toNat ≤ 3 → (∀ x ∈ u.list, x.id ≠ id.toNat) → id.toNat ∈ u.withheld →
      exec (.pieceCompletion p id status offset) s = .next (settle s (setPort p { u with
        withheld := u.withheld.filter (fun n => n != id.toNat) } s)))

/-- The completion of a host piece (R90, R77, R79). A flash WRITE, in any status (R6, R82): the piece leaves the list,
the timeout count becomes 0 if it was SENT, the slot's inflight count falls, and the command counts one piece less. Any
status but OK takes its offsets from the three sets, but for those that a later host write to the slot covers, and
merges into the command, MEDIA_ERROR with its first LBA + x, ABORTED and NOT_READY (as FLASH_UNAVAILABLE) with its
first LBA. Any piece that completes OK on either port: the same, with nothing merged and no set changed; a fallback
piece also leaves the fallback pieces (R81). A flash READ that completes MEDIA_ERROR at x (R80), here a SENT one with
one run of clean failed offsets, a free record, and a Disk Port neither FAULTED nor in a retry delay: the run leaves
the valid set, and a disk READ of it becomes the command's fallback piece; the lowest dirty failed offset, where there
is one, merges MEDIA_ERROR with its LBA. A disk piece that fails (R83), a flash READ that completes ABORTED or
NOT_READY, and a fallback piece that fails, as MEDIA_ERROR (R81): merged with its first LBA, plus x, and no set
changes. An orphan (R85): the same slot changes, nothing merged, sent or made. A SENT piece completed ABORTED with the
spindle not RUNNING goes back to WAITING once (R98); that another completion of one clears the timeout count is log
entry 13. The command completes where this was its last condition (R79). That the record a failing flash READ returns
serves that READ's run first, even while runs of other commands wait, is log entry 20, and which record it is log entry
4. Not stated here: failing SYNC pieces, no run or several runs of clean failed offsets, and a failing READ that finds
no free record. -/
def Obligations.HostPieceCompletion : Prop :=
  (∀ (s : State) (id status offset : Byte) (x : Piece) (before behind : List Piece) (r : CommandRec)
      (others others' : List CommandRec) (i first chunk : Nat),
      s.flash.status = .ready → s.flash.list = before ++ x :: behind → x.id = id.toNat → x.state ≠ .waiting →
      (∀ y ∈ before ++ behind, y.id ≠ id.toNat) → x.owner = .command r.tag → x.op = .write → x.target = .flash i first →
      s.commands = others ++ r :: others' → (∀ y ∈ others ++ others', y.tag ≠ r.tag) → (s.slot i).chunk = some chunk →
      status.toNat ≤ 3 →
      let e := min offset.toNat (x.count - 1)
      let lost := rangeSet first x.count &&& ~~~(laterWrites i behind)
      let ok : Bool := status.toNat = 0
      let r' : CommandRec := { r with
        outstanding := r.outstanding - 1
        status := match status.toNat with
          | 0 => r.status
          | 1 => r.status.worse .mediaError
          | 2 => r.status.worse .aborted
          | _ => r.status.worse .flashUnavailable
        errorLba := match status.toNat with
          | 0 => r.errorLba
          | 1 => lowerLba r.errorLba (some (chunk * 256 + first + e))
          | _ => lowerLba r.errorLba (some (chunk * 256 + first)) }
      let u : State := { modifySlot i (fun q => { q with
          inflight := q.inflight - 1
          valid := if ok then q.valid else q.valid &&& ~~~lost
          dirty := if ok then q.dirty else q.dirty &&& ~~~lost
          redirty := if ok then q.redirty else q.redirty &&& ~~~lost }) s with
        flash := { s.flash with
          list := before ++ behind, timeouts := if x.state = .sent then 0 else s.flash.timeouts } }
      (r.routingDone = false ∨ r.outstanding - 1 ≠ 0 ∨ r.fallbackList ≠ [] →
        exec (.pieceCompletion .flash id status offset) s = .next (settle s { u with
          commands := others ++ r' :: others' })) ∧
      (r.routingDone = true → r.outstanding - 1 = 0 → r.fallbackList = [] →
        exec (.pieceCompletion .flash id status offset) s = .next (settle s { u with
          commands := others ++ others'
          link := { s.link with sent := s.link.sent ++ [⟨r.tag, .media r'.status, r'.errorLba, .none⟩] } }))) ∧
  (∀ (s : State) (p : Port) (id offset : Byte) (x : Piece) (before behind : List Piece) (r : CommandRec)
    (others others' : List CommandRec), (s.port p).status = .ready → (s.port p).list = before ++ x :: behind →
    x.id = id.toNat → x.state ≠ .waiting → (∀ y ∈ before ++ behind, y.id ≠ id.toNat) → x.owner = .command r.tag →
    s.commands = others ++ r :: others' → (∀ y ∈ others ++ others', y.tag ≠ r.tag) →
    let r' : CommandRec := { r with
      outstanding := r.outstanding - 1
      fallbackPieces := if p = .disk then r.fallbackPieces.filter (fun n => n != x.id) else r.fallbackPieces }
    let v : State := match x.target with
      | .flash i _ => modifySlot i (fun q => { q with inflight := q.inflight - 1 }) s
      | _ => s
    let u : State := setPort p { s.port p with
      list := before ++ behind, timeouts := if x.state = .sent then 0 else (s.port p).timeouts } v
    (r.routingDone = false ∨ r.outstanding - 1 ≠ 0 ∨ r.fallbackList ≠ [] →
      exec (.pieceCompletion p id 0#8 offset) s = .next (settle s { u with commands := others ++ r' :: others' })) ∧
    (r.routingDone = true → r.outstanding - 1 = 0 → r.fallbackList = [] →
      exec (.pieceCompletion p id 0#8 offset) s = .next (settle s { u with
        commands := others ++ others'
        link := { s.link with sent := s.link.sent ++ [⟨r.tag, .media r.status, r.errorLba, .none⟩] } }))) ∧
  (∀ (s : State) (id offset : Byte) (x : Piece) (before behind : List Piece) (r : CommandRec)
    (others others' : List CommandRec) (i first chunk : Nat) (q : Run), s.flash.status = .ready →
    s.flash.list = before ++ x :: behind → x.id = id.toNat → x.state = .sent →
    (∀ y ∈ before ++ behind, y.id ≠ id.toNat) → x.owner = .command r.tag → x.op = .read → x.target = .flash i first →
    s.commands = others ++ r :: others' → (∀ y ∈ others ++ others', y.tag ≠ r.tag) → (s.slot i).chunk = some chunk →
    let e := min offset.toNat (x.count - 1)
    let F := rangeSet (first + e) (x.count - e)
    let u : State := { modifySlot i (fun q => { q with
        inflight := q.inflight - 1
        valid := q.valid &&& ~~~(F &&& ~~~q.dirty)
        redirty := q.redirty &&& ~~~(F &&& ~~~q.dirty) }) s with
      flash := { s.flash with list := before ++ behind, timeouts := 0 } }
    let lba := chunk * 256 + q.first
    let merged : CommandRec := match lowest (F &&& (s.slot i).dirty) with
      | some o => r.merge .mediaError (some (chunk * 256 + o))
      | none => r
    runs (F &&& ~~~(s.slot i).dirty) = [q] → freeRecords u ≠ 0 → s.disk.status ≠ .faulted →
    s.spindle.retryTimer = none → ∃ id' ∈ freeIds u,
    exec (.pieceCompletion .flash id 1#8 offset) s = .next (settle s { u with
      disk := joined s.disk ⟨id', .command r.tag, .read, .disk lba, q.count, .host r.buffer (lba - r.lba), false, .waiting,
        none⟩ (maySend .disk s) (pieceLimit s .disk)
      commands := others ++ { merged with
        outstanding := r.outstanding - 1 + 1, fallbackPieces := r.fallbackPieces ++ [id'] } :: others'
      choice := s.choice + 1 })) ∧
  (∀ (s : State) (p : Port) (id status offset : Byte) (x : Piece) (before behind : List Piece),
    (s.port p).status = .ready → (s.port p).list = before ++ x :: behind → x.id = id.toNat → x.state ≠ .waiting →
    (∀ y ∈ before ++ behind, y.id ≠ id.toNat) → status.toNat ≤ 3 →
    let caught : Prop := p = .disk ∧ x.state = .sent ∧ s.spindle.state ≠ .running ∧ status.toNat = 2
    let e := min offset.toNat (x.count - 1)
    let taken (v : State) : State := setPort p { s.port p with
      list := before ++ behind, timeouts := if x.state = .sent then 0 else (s.port p).timeouts } v
    (∀ (r : CommandRec) (others others' : List CommandRec) (lba : Nat), x.owner = .command r.tag →
      s.commands = others ++ r :: others' → (∀ y ∈ others ++ others', y.tag ≠ r.tag) → 1 ≤ status.toNat →
      ¬ caught ∨ x.retryUsed = true →
      ((p = .disk ∧ x.target = .disk lba) ∨ (p = .flash ∧ x.op = .read ∧ status.toNat ≠ 1 ∧
        ∃ i first chunk, x.target = .flash i first ∧ (s.slot i).chunk = some chunk ∧ lba = chunk * 256 + first)) →
      let fallback : Bool := p = .disk ∧ x.id ∈ r.fallbackPieces
      let status' : MediaStatus :=
        if fallback = true ∨ status.toNat = 1 then .mediaError
        else if status.toNat = 2 then .aborted
        else if p = .disk then .diskUnavailable else .flashUnavailable
      let r' : CommandRec := { r with
        outstanding := r.outstanding - 1
        fallbackPieces := if p = .disk then r.fallbackPieces.filter (fun n => n != x.id) else r.fallbackPieces
        status := r.status.worse status'
        errorLba := lowerLba r.errorLba (some (if status.toNat = 1 then lba + e else lba)) }
      let u := taken (match x.target with
        | .flash i _ => modifySlot i (fun w => { w with inflight := w.inflight - 1 }) s
        | _ => s)
      (r.routingDone = false ∨ r.outstanding - 1 ≠ 0 ∨ r.fallbackList ≠ [] →
        exec (.pieceCompletion p id status offset) s = .next (settle s { u with commands := others ++ r' :: others' })) ∧
      (r.routingDone = true → r.outstanding - 1 = 0 → r.fallbackList = [] →
        exec (.pieceCompletion p id status offset) s = .next (settle s { u with
          commands := others ++ others'
          link := { s.link with sent := s.link.sent ++ [⟨r.tag, .media r'.status, r'.errorLba, .none⟩] } }))) ∧
    (x.owner = .orphan → ¬ caught ∨ x.retryUsed = true →
      let lost (i first : Nat) (w : SlotRec) : OffsetSet :=
        if x.op = .read ∧ status.toNat = 1 then rangeSet (first + e) (x.count - e) &&& ~~~w.dirty
        else if x.op = .write ∧ status.toNat ≠ 0 then rangeSet first x.count &&& ~~~(laterWrites i behind)
        else 0#256
      exec (.pieceCompletion p id status offset) s = .next (settle s (taken (match x.target with
        | .flash i first => modifySlot i (fun w => { w with
            inflight := w.inflight - 1
            valid := w.valid &&& ~~~(lost i first w)
            dirty := w.dirty &&& ~~~(lost i first w)
            redirty := w.redirty &&& ~~~(lost i first w) }) s
        | _ => s)))) ∧
    (caught → x.retryUsed = false → (∀ c y, x.owner = .context c → s.ctx c = some y → y.abort = none) →
      exec (.pieceCompletion p id status offset) s = .next (settle s { s with disk := { s.disk with
        list := before ++ { x with state := .waiting, retryUsed := true, timer := none } :: behind } })))

/-- A piece timer's expiry (R92, R94). A SENT piece is aborted, and an ABORTING one is only timed again; the
consecutive-timeout count rises. At 3 the port is FAULTED with the count back at 0 and PORT_FAULT set; every listed
piece completes with the port's forced status, so that its list is empty, and the records of those that had been sent
are withheld (R86). The Flash Port's fault takes an ONLINE part to FLASH_LOST, while the Disk Port's leaves the
spindle STOPPED. A command whose one outstanding piece was the port's one listed piece merges FLASH_UNAVAILABLE or
DISK_UNAVAILABLE with the piece's first LBA (a fallback piece MEDIA_ERROR, R81), here in the middle of its routing,
before the judgements of the event's end; a flash WRITE's offsets leave the three sets (R77, R82). -/
def Obligations.PieceTimeout : Prop :=
  ∀ (s : State) (p : Port) (id : Byte) (x : Piece) (before behind : List Piece),
    let u := s.port p
    u.list = before ++ x :: behind → x.id = id.toNat → (∀ y ∈ before ++ behind, y.id ≠ id.toNat) → x.timer ≠ none →
    (x.state = .sent → u.timeouts + 1 < 3 → exec (.pieceTimeout p id) s = .next (settle s (setPort p { u with
      list := before ++ { x with state := .aborting } :: behind
      sent := u.sent ++ [.abort id.toNat]
      timeouts := u.timeouts + 1 } s))) ∧
    (x.state = .aborting → u.timeouts + 1 < 3 →
      exec (.pieceTimeout p id) s = .next (settle s (setPort p { u with timeouts := u.timeouts + 1 } s))) ∧
    (x.state ≠ .waiting → 3 ≤ u.timeouts + 1 → ∃ v t, exec (.pieceTimeout p id) s = .next t ∧ t = settle s v ∧
      (t.port p).status = .faulted ∧ (t.port p).timeouts = 0 ∧ t.sup.flags.getLsbD 10 = true ∧
      ((u.list.map (·.id)).Nodup → (t.port p).list = [] ∧
        (t.port p).withheld = u.withheld ++ ((u.list.filter (fun y => y.state != .waiting)).map (·.id))) ∧
      (p = .flash → t.sup.mode = if s.sup.mode = .online then .flashLost else s.sup.mode) ∧
      (p = .disk → t.spindle.state = .stopped ∧ t.sup.mode = s.sup.mode) ∧
      (∀ (r : CommandRec) (others others' : List CommandRec) (lba : Nat), before = [] → behind = [] →
        x.owner = .command r.tag → s.commands = others ++ r :: others' → (∀ y ∈ others ++ others', y.tag ≠ r.tag) →
        r.routingDone = false →
        ((p = .disk ∧ x.target = .disk lba) ∨ (p = .flash ∧
          ∃ i first chunk, x.target = .flash i first ∧ (s.slot i).chunk = some chunk ∧ lba = chunk * 256 + first)) →
        v.commands = others ++ { r with
          outstanding := r.outstanding - 1
          fallbackPieces := if p = .disk then r.fallbackPieces.filter (fun n => n != x.id) else r.fallbackPieces
          status := r.status.worse (if p = .flash then .flashUnavailable
            else if x.id ∈ r.fallbackPieces then .mediaError else .diskUnavailable)
          errorLba := lowerLba r.errorLba (some lba) } :: others' ∧
        v.map = (match x.target with
          | .flash i first =>
            let lost := if x.op = .write then rangeSet first x.count else 0#256
            (modifySlot i (fun w => { w with
              inflight := w.inflight - 1, valid := w.valid &&& ~~~lost, dirty := w.dirty &&& ~~~lost
              redirty := w.redirty &&& ~~~lost }) s).map
          | _ => s.map)))

/-- A probe ends (R95, R96, R111, R166, R167). READY: the port is READY, its timer stops, and its WAITING pieces are
sent, on the Disk Port where the reply reports RUNNING (here with no Mover job); the Flash Port's READY takes a part
in FLASH_LOST to ONLINE, and an ENABLE that waited acts. At the timer's expiry the port, here with an empty list, is
FAULTED and PORT_FAULT is set, and for the Disk Port the spindle is STOPPED. A PORT RESTART of the port that holds the
head completes with the port's new state, READY or FAULTED, in every one of these cases. A READY at a port that is not
PROBING is discarded (R95); an expiry of a timer that does not run changes nothing (log entry 1). -/
def Obligations.ProbeEnds : Prop :=
  ∀ (s : State) (spindle : Byte),
    let ended (tag : Nat) (code : Nat) (u : State) : State := { u with
      link := { s.link with
        headHold := none, sent := s.link.sent ++ [⟨tag, .good, none, .fields [some code]⟩] }
      commands := s.commands.filter (fun x => x.tag != tag) }
    let readyFlash : State := { s with
      flash := PortUnit.sendAll { s.flash with status := .ready, probeTimer := none } (s.params.flashLimit * 10) }
    let readyDisk : State := { s with
      disk := { s.disk with status := .ready, probeTimer := none }
      spindle := { s.spindle with state := .stopped, startFailed := false, retryTimer := none } }
    let faulted (u : PortUnit) : PortUnit := { u with status := .faulted, probeTimer := none }
    (∀ p, (s.port p).status ≠ .probing → exec (.probeReady p spindle) s = .next s) ∧
    (∀ p, (s.port p).probeTimer = none → exec (.probeTimeout p) s = .next s) ∧
    (s.flash.status = .probing → s.sup.enableWaiting = false → s.sup.mode ≠ .flashLost →
      (s.link.headHold = none → exec (.probeReady .flash spindle) s = .next (settle s readyFlash)) ∧
      (∀ tag, s.link.headHold = some ⟨tag, .portRestart .flash⟩ →
        exec (.probeReady .flash spindle) s = .next (settle s (ended tag 1 readyFlash)))) ∧
    (s.flash.status = .probing → s.sup.enableWaiting = false → s.sup.mode = .flashLost →
      let back : State := restartScanner { readyFlash with sup := { s.sup with mode := .online } }
      (s.link.headHold = none → exec (.probeReady .flash spindle) s = .next (settle s back)) ∧
      (∀ tag, s.link.headHold = some ⟨tag, .portRestart .flash⟩ →
        exec (.probeReady .flash spindle) s = .next (settle s (ended tag 1 back)))) ∧
    (∀ tag, s.flash.status = .probing → s.sup.enableWaiting = true → s.link.headHold = some ⟨tag, .enable⟩ →
      exec (.probeReady .flash spindle) s = .next (settle s (ended tag 1 (restartScanner
        { readyFlash with sup := { s.sup with mode := .online, enableWaiting := false } })))) ∧
    (s.disk.status = .probing → spindle ≠ 1#8 →
      (s.link.headHold = none → exec (.probeReady .disk spindle) s = .next (settle s readyDisk)) ∧
      (∀ tag, s.link.headHold = some ⟨tag, .portRestart .disk⟩ →
        exec (.probeReady .disk spindle) s = .next (settle s (ended tag 1 readyDisk)))) ∧
    (s.disk.status = .probing → s.mover.ctx0 = none → s.mover.ctx1 = none →
      let running : State := { readyDisk with
        disk := PortUnit.sendAll readyDisk.disk (s.params.diskLimit * 100)
        spindle := { readyDisk.spindle with state := .running } }
      (s.link.headHold = none → exec (.probeReady .disk 1#8) s = .next (settle s running)) ∧
      (∀ tag, s.link.headHold = some ⟨tag, .portRestart .disk⟩ →
        exec (.probeReady .disk 1#8) s = .next (settle s (ended tag 1 running)))) ∧
    (s.flash.probeTimer ≠ none → s.flash.list = [] → s.sup.enableWaiting = false →
      let lost : State := { s with flash := faulted s.flash, sup := (setFlag .portFault s).sup }
      (s.link.headHold = none → exec (.probeTimeout .flash) s = .next (settle s lost)) ∧
      (∀ tag, s.link.headHold = some ⟨tag, .portRestart .flash⟩ →
        exec (.probeTimeout .flash) s = .next (settle s (ended tag 2 lost)))) ∧
    (∀ tag, s.flash.probeTimer ≠ none → s.flash.list = [] → s.sup.enableWaiting = true →
      s.link.headHold = some ⟨tag, .enable⟩ →
      exec (.probeTimeout .flash) s = .next (settle s (ended tag 2 { s with
        flash := faulted s.flash, scanner := .idle
        sup := { (setFlag .portFault s).sup with mode := .flashLost, enableWaiting := false } }))) ∧
    (s.disk.probeTimer ≠ none → s.disk.list = [] →
      let lost : State := { s with
        disk := faulted s.disk, sup := (setFlag .portFault s).sup, spindle := { s.spindle with state := .stopped } }
      (s.link.headHold = none → exec (.probeTimeout .disk) s = .next (settle s lost)) ∧
      (∀ tag, s.link.headHold = some ⟨tag, .portRestart .disk⟩ →
        exec (.probeTimeout .disk) s = .next (settle s (ended tag 2 lost))))

/-! ### Spindle -/

/-- A HALT notice at a READY Disk Port (R97, R110): HALT_NOTICE is set, the timers of SENT pieces stop while ABORTING
ones run on, and the spindle is STOPPED with its timers and restart-pending cleared; an outstanding START, here with
no disk piece listed, fails and starts the retry delay. A port that is PROBING or FAULTED discards it. No SPIN DOWN
waits here. -/
def Obligations.Halt : Prop :=
  ∀ s : State,
    (s.disk.status ≠ .ready → exec .halt s = .next s) ∧
    (s.disk.status = .ready → s.link.headHold = none →
      let caught : State := { s with
        disk := { s.disk with list := s.disk.list.map (fun x => if x.state = .sent then { x with timer := none } else x) }
        sup := (setFlag .haltNotice s).sup }
      (s.spindle.state = .stopped → exec .halt s = .next (settle s caught)) ∧
      (s.spindle.state = .running ∨ s.spindle.state = .stopping → exec .halt s = .next (settle s { caught with
        spindle := { s.spindle with
          state := .stopped, idleTimer := none, startTimer := none, restartPending := false
          pendingSpinDown := false } })) ∧
      (s.spindle.state = .starting → s.disk.list = [] → exec .halt s = .next (settle s { s with
        sup := (setFlag .spinFail (setFlag .haltNotice s)).sup
        spindle := { s.spindle with
          state := .stopped, startTimer := none, startFailed := true, restartPending := false
          retryTimer := some (s.params.retryDelay * 1000), pendingSpinDown := false } })))

/-- The end of a START. A reply of OK makes the spindle RUNNING, clears start-failed and loads the watchdogs of jobs
that waited for the disk; a piece still SENT from a HALT goes back to WAITING once, and every WAITING piece is sent
(R102, R98, R143). A reply of FAILED, or the start timer's expiry, fails the start (R103), here with no disk piece
listed, so that what log entry 12 says of the pieces does not arise. A reply with no START outstanding is discarded
(R102); one above FAILED is too (log entry 14), and a start timer that does not run does not expire (log entry 1). -/
def Obligations.StartEnds : Prop :=
  ∀ (s : State) (status : Byte),
    (s.spindle.state ≠ .starting ∨ 1 < status.toNat → exec (.startReply status) s = .next s) ∧
    (s.spindle.state = .starting →
      (s.disk.status = .ready → (s.disk.list.map (·.id)).Nodup →
        (∀ x ∈ s.disk.list, x.state = .sent → x.retryUsed = false ∧ ∀ c y, x.owner = .context c → s.ctx c = some y →
          y.abort = none) →
        let back : List Piece := s.disk.list.map (fun x =>
          if x.state = .sent then { x with state := .waiting, retryUsed := true, timer := none } else x)
        let timed (y : Context) : Context :=
          if s.params.watchdogCode ≠ 0 ∧ (∃ id, y.piece = some id ∧ ∃ x ∈ s.disk.list, x.id = id ∧ x.state ≠ .aborting)
          then { y with watchdog := some (s.params.watchdogCode * 10) } else y
        exec (.startReply 0#8) s = .next (settle s { s with
          spindle := { s.spindle with state := .running, startTimer := none, startFailed := false }
          mover := { s.mover with ctx0 := s.mover.ctx0.map timed, ctx1 := s.mover.ctx1.map timed }
          disk := PortUnit.sendAll { s.disk with list := back } (s.params.diskLimit * 100) })) ∧
      (s.disk.list = [] → s.link.headHold = none →
        let failed : State := { s with
          sup := (setFlag .spinFail s).sup
          spindle := { s.spindle with
            state := .stopped, startTimer := none, startFailed := true, restartPending := false
            retryTimer := some (s.params.retryDelay * 1000), pendingSpinDown := false } }
        exec (.startReply 1#8) s = .next (settle s failed) ∧
        (s.spindle.startTimer ≠ none → exec .startTimerExpiry s = .next (settle s failed)))) ∧
    (s.spindle.startTimer = none → exec .startTimerExpiry s = .next s)

/-- The end of a STOP (R105): at its reply, or at the start timer's expiry, which also sets SPIN_FAIL, the spindle is
STOPPED; with restart-pending set START is sent in the same event. A SPIN DOWN that holds the head completes with the
spindle state and the start-failed flag (R109). A reply with no STOP outstanding is discarded. -/
def Obligations.StopEnds : Prop :=
  ∀ s : State,
    let stopped (u : State) : State := { u with spindle := { s.spindle with
      state := .stopped, startTimer := none, restartPending := false, pendingSpinDown := false } }
    let restarted (u : State) : State := { u with
      spindle := { s.spindle with
        state := .starting, startTimer := some (s.params.startLimit * 1000), restartPending := false
        pendingSpinDown := false }
      disk := { s.disk with sent := s.disk.sent ++ [.start] } }
    let ended (u : State) : State := if s.spindle.restartPending then restarted u else stopped u
    (s.spindle.state ≠ .stopping → exec .stopReply s = .next s) ∧
    (s.spindle.state = .stopping → s.link.headHold = none → exec .stopReply s = .next (settle s (ended s))) ∧
    (s.spindle.state = .stopping → s.link.headHold = none → s.spindle.startTimer ≠ none →
      exec .startTimerExpiry s = .next (settle s (ended { s with sup := (setFlag .spinFail s).sup }))) ∧
    (∀ tag, s.spindle.state = .stopping → s.link.headHold = some ⟨tag, .spinDown .waiting⟩ →
      ∃ t, exec .stopReply s = .next t ∧ t.link = { s.link with
          headHold := none
          sent := s.link.sent ++ [⟨tag, .good, none,
            .fields [some t.spindle.state.code, some s.spindle.startFailed.toNat]⟩] } ∧
        t.commands = s.commands.filter (fun x => x.tag != tag) ∧
        (t.spindle.state = .stopped ∨ t.spindle.state = .starting) ∧
        (s.spindle.restartPending = true → t.spindle.state = .starting))

/-! ### Reclaimer -/

/-- The examination of the slot at a MOVING hand, by the first row of R151 that matches, with the counts of R150, the
waits of R152 and the pause of R154; a hand that is not MOVING examines nothing. Log entry 21 has that an examination
that leaves the hand WAITING counts in the idle revolution, and that neither a duty that goes off nor a referenced flag
that is cleared in the pausing examination releases the pause. -/
def Obligations.ReclaimerExamination : Prop :=
  ∀ s : State,
    let i := s.reclaimer.hand
    let r := s.slot i
    let S := s.map.slotCount
    let D := s.reclaimer.duties
    let dirty : Bool := r.state ≠ .free ∧ r.dirty ≠ 0#256
    let rev := s.reclaimer.idleRevolution + 1
    let counted : Reclaimer := { s.reclaimer with
      duties := { D with idle := D.idle && decide (rev < S) }
      idleRevolution := if D.idle then rev else s.reclaimer.idleRevolution }
    let pauses (progress : Bool) : Bool := progress = false ∧ 2 * S ≤ s.reclaimer.noProgress + 1
    let passed (progress : Bool) (u : State) : State := { u with
      reclaimer := { counted with
        hand := if i + 1 < S then i + 1 else 0
        noProgress := if progress = true ∨ pauses progress = true then 0 else s.reclaimer.noProgress + 1
        condition := if pauses progress then .paused else .moving }
      sup := if pauses progress then (setFlag .noEvictable u).sup else u.sup }
    let flush (k : JobClass) : State :=
      if isDuplicate s ⟨.flush, .slot i⟩ then passed false s
      else passed true (modifySlot i (fun q => { q with queued := true }) { s with arbiter := { s.arbiter with
        queues := s.arbiter.queues.set k (s.arbiter.queues.get k ++ [⟨.flush, .slot i⟩]) } })
    let answers (t : State) : Prop := exec .reclaimerExamination s = .next (settle s t)
    (s.reclaimer.condition ≠ .moving → exec .reclaimerExamination s = .next s) ∧
    (s.reclaimer.condition = .moving → s.sup.mode ≠ .loading →
      (r.state ≠ .resident ∨ r.queued = true ∨ r.inflight ≠ 0 → answers (passed false s)) ∧
      (r.state = .resident → r.queued = false → r.inflight = 0 →
        (r.valid = 0#256 → answers (passed true (putSlot i SlotRec.free s))) ∧
        (r.valid ≠ 0#256 →
          let urgent : Prop := (32 ≤ s.arbiter.queues.flushUrgent.length →
              answers { s with reclaimer := { counted with condition := .waiting } }) ∧
            (s.arbiter.queues.flushUrgent.length < 32 → answers (flush .flushUrgent))
          (dirty = true → D.forced = true → urgent) ∧
          (dirty = false ∨ D.forced = false →
            (r.pinned = false → r.referenced = true → D.evict = true →
              answers (passed false (putSlot i { r with referenced := false } s))) ∧
            (r.pinned = false → r.referenced = false → dirty = false → D.evict = true →
              answers (passed true (putSlot i SlotRec.free s))) ∧
            (r.pinned = true ∨ r.referenced = false → dirty = true → D.evict = true → urgent) ∧
            (dirty = true → D.evict = false → D.idle = true →
              (32 ≤ s.arbiter.queues.flushIdle.length → answers { s with
                reclaimer := { counted with
                  duties := { D with idle := false }
                  noProgress := if pauses false then 0 else s.reclaimer.noProgress + 1
                  condition := if pauses false then .paused else .moving }
                sup := if pauses false then (setFlag .noEvictable s).sup else s.sup }) ∧
              (s.arbiter.queues.flushIdle.length < 32 → answers (flush .flushIdle))) ∧
            (D.evict = false → dirty = false ∨ D.idle = false → answers (passed false s)) ∧
            (D.evict = true → r.pinned = true → dirty = false → answers (passed false s))))))

/-- The expiry of the three timers that only start something. The retry delay's stops it, and the standing needs are
then looked at (R104). The idle timer's sends STOP (R105, R106). The idle-flush timer's turns the IDLE duty on with
revolution count 0 if the Flush-Idle queue is empty and the dirty count is above 0, and the changed duty set releases
a hand that was WAITING or PAUSED (R149, R152, R154). A timer that does not run does not expire (log entry 1). -/
def Obligations.TimerExpiries : Prop :=
  ∀ s : State,
    let stopped : State := { s with reclaimer := { s.reclaimer with idleFlushTimer := none } }
    (s.spindle.retryTimer = none → exec .retryDelayExpiry s = .next s) ∧
    (s.spindle.retryTimer ≠ none → exec .retryDelayExpiry s =
      .next (settle s { s with spindle := { s.spindle with retryTimer := none } })) ∧
    (s.spindle.idleTimer = none → exec .idleTimerExpiry s = .next s) ∧
    (s.spindle.idleTimer ≠ none → s.spindle.state = .running → exec .idleTimerExpiry s = .next (settle s { s with
      disk := { s.disk with sent := s.disk.sent ++ [.stop] }
      spindle := { s.spindle with
        state := .stopping, startTimer := some (s.params.startLimit * 1000), idleTimer := none
        pendingSpinDown := false } })) ∧
    (s.reclaimer.idleFlushTimer = none → exec .idleFlushExpiry s = .next s) ∧
    (s.reclaimer.idleFlushTimer ≠ none →
      (s.arbiter.queues.flushIdle ≠ [] ∨ s.map.dirtyCount = 0 →
        exec .idleFlushExpiry s = .next (settle s stopped)) ∧
      (s.arbiter.queues.flushIdle = [] → s.map.dirtyCount ≠ 0 → s.reclaimer.duties.idle = false →
        let waits : Prop := s.reclaimer.condition = .waiting ∨ s.reclaimer.condition = .paused
        let moves : Prop := s.sup.mode = .online ∧ s.held .reclaimer = false
        exec .idleFlushExpiry s = .next (settle s { stopped with reclaimer := { stopped.reclaimer with
          duties := { s.reclaimer.duties with idle := true }
          idleRevolution := 0
          condition := if waits then (if moves then .moving else .stopped) else s.reclaimer.condition } })))

/-! ### Merging -/

/-- The severities by which a command's status merges: a merge keeps the more severe of the two statuses and the
lowest failing LBA, whatever the order of the merges (R78). -/
def Obligations.MergeOrder : Prop :=
  (∀ a b : MediaStatus, a.worse b = if a.code < b.code then b else a) ∧
  (MediaStatus.good.code < MediaStatus.mediaError.code ∧ MediaStatus.mediaError.code < MediaStatus.flashUnavailable.code ∧
    MediaStatus.flashUnavailable.code < MediaStatus.diskUnavailable.code ∧
    MediaStatus.diskUnavailable.code < MediaStatus.aborted.code) ∧
  (∀ (r : CommandRec) (st : MediaStatus) (lba : Option Nat),
    (r.merge st lba).status = r.status.worse st ∧
    (∀ a, r.errorLba = some a → lba = none → (r.merge st lba).errorLba = some a) ∧
    (∀ b, r.errorLba = none → lba = some b → (r.merge st lba).errorLba = some b) ∧
    (∀ a b, r.errorLba = some a → lba = some b → (r.merge st lba).errorLba = some (min a b)) ∧
    (r.errorLba = none → lba = none → (r.merge st lba).errorLba = none)) ∧
  (∀ (r : CommandRec) (st st' : MediaStatus) (lba lba' : Option Nat),
    (r.merge st lba).merge st' lba' = (r.merge st' lba').merge st lba)

/-! ### Laws that every step keeps -/

/-- The configuration laws (1.1, 2.7, R19, R46, R58, R146) are kept by every step, from any state in which they hold. -/
def Obligations.ConfigurationKept : Prop :=
  ∀ s t : State, ConfigurationLaw s → step s = .next t → ConfigurationLaw t

/-- The laws of the part's interface are kept by every step: the notice line shows whether an enabled flag is set
(R168), and the link's flow control shows whether the Arrival Queue is full (R157). -/
def Obligations.InterfaceLawsKept : Prop :=
  ∀ s t : State, NoticeLaw s → LinkLaw s → step s = .next t → NoticeLaw t ∧ LinkLaw t

/-- The counts are kept in step with what they count by every step: the free, dirty and pinned counts with the Slot
Table (R10), the used and candidate counts with the Heat Table (R24, R25), and no job queue grows beyond its capacity
(7.1). -/
def Obligations.CountsKept : Prop :=
  ∀ s t : State, CountsLaw s.map → HeatCountsLaw s.heat → QueuesLaw s → step s = .next t →
    CountsLaw t.map ∧ HeatCountsLaw t.heat ∧ QueuesLaw t

/-- The state after reset meets every law that the steps keep. -/
def Obligations.ResetKeepsLaws : Prop :=
  ConfigurationLaw State.reset ∧ NoticeLaw State.reset ∧ LinkLaw State.reset ∧ CountsLaw State.reset.map ∧
    HeatCountsLaw State.reset.heat ∧ QueuesLaw State.reset
end

