-- ==== Sys2Proof/Laws/State.lean ====
section
/-! SUPPORT. What each named update of the state leaves unchanged: one lemma for each operation, a conjunction over the
fields it does not write. Each is used by simp, which splits the conjunction, so no proof unfolds a record update. -/

namespace Sys2Proof.Machine

/-- A fold keeps what each of its steps keeps. -/
theorem foldl_keeps {α β σ : Type} (π : σ → β) (f : σ → α → σ) (h : ∀ s a, π (f s a) = π s) (l : List α) (s : σ) :
    π (l.foldl f s) = π s := by
  induction l generalizing s with
  | nil => rfl
  | cons a rest ih => rw [List.foldl_cons, ih, h]

@[simp] theorem setFlag_frame (f : EventFlag) (s : State) :
    (setFlag f s).link = s.link ∧ (setFlag f s).commands = s.commands ∧ (setFlag f s).routing = s.routing ∧
    (setFlag f s).map = s.map ∧ (setFlag f s).ranges = s.ranges ∧ (setFlag f s).walk = s.walk ∧
    (setFlag f s).scanner = s.scanner ∧ (setFlag f s).heat = s.heat ∧ (setFlag f s).streams = s.streams ∧
    (setFlag f s).accesses = s.accesses ∧ (setFlag f s).arbiter = s.arbiter ∧ (setFlag f s).mover = s.mover ∧
    (setFlag f s).reclaimer = s.reclaimer ∧ (setFlag f s).flash = s.flash ∧ (setFlag f s).disk = s.disk ∧
    (setFlag f s).spindle = s.spindle ∧ (setFlag f s).params = s.params ∧ (setFlag f s).choice = s.choice ∧
    (setFlag f s).pending = s.pending := by
  and_intros <;> rfl

@[simp] theorem judgeFree_frame (s : State) :
    (judgeFree s).link = s.link ∧ (judgeFree s).commands = s.commands ∧ (judgeFree s).routing = s.routing ∧
    (judgeFree s).map = s.map ∧ (judgeFree s).ranges = s.ranges ∧ (judgeFree s).walk = s.walk ∧
    (judgeFree s).scanner = s.scanner ∧ (judgeFree s).heat = s.heat ∧ (judgeFree s).streams = s.streams ∧
    (judgeFree s).accesses = s.accesses ∧ (judgeFree s).arbiter = s.arbiter ∧ (judgeFree s).mover = s.mover ∧
    (judgeFree s).reclaimer = s.reclaimer ∧ (judgeFree s).flash = s.flash ∧ (judgeFree s).disk = s.disk ∧
    (judgeFree s).spindle = s.spindle ∧ (judgeFree s).params = s.params ∧ (judgeFree s).choice = s.choice ∧
    (judgeFree s).pending = s.pending := by
  unfold judgeFree; (repeat' split) <;> simp

@[simp] theorem judgeDirty_frame (s : State) :
    (judgeDirty s).link = s.link ∧ (judgeDirty s).commands = s.commands ∧ (judgeDirty s).routing = s.routing ∧
    (judgeDirty s).map = s.map ∧ (judgeDirty s).ranges = s.ranges ∧ (judgeDirty s).walk = s.walk ∧
    (judgeDirty s).scanner = s.scanner ∧ (judgeDirty s).heat = s.heat ∧ (judgeDirty s).streams = s.streams ∧
    (judgeDirty s).accesses = s.accesses ∧ (judgeDirty s).arbiter = s.arbiter ∧ (judgeDirty s).mover = s.mover ∧
    (judgeDirty s).reclaimer = s.reclaimer ∧ (judgeDirty s).flash = s.flash ∧ (judgeDirty s).disk = s.disk ∧
    (judgeDirty s).spindle = s.spindle ∧ (judgeDirty s).params = s.params ∧ (judgeDirty s).choice = s.choice ∧
    (judgeDirty s).pending = s.pending := by
  unfold judgeDirty; (repeat' split) <;> simp

@[simp] theorem judgeCrossings_frame (s : State) :
    (judgeCrossings s).link = s.link ∧ (judgeCrossings s).commands = s.commands ∧
    (judgeCrossings s).routing = s.routing ∧ (judgeCrossings s).map = s.map ∧ (judgeCrossings s).ranges = s.ranges ∧
    (judgeCrossings s).walk = s.walk ∧ (judgeCrossings s).scanner = s.scanner ∧ (judgeCrossings s).heat = s.heat ∧
    (judgeCrossings s).streams = s.streams ∧ (judgeCrossings s).accesses = s.accesses ∧
    (judgeCrossings s).arbiter = s.arbiter ∧ (judgeCrossings s).mover = s.mover ∧
    (judgeCrossings s).reclaimer = s.reclaimer ∧ (judgeCrossings s).flash = s.flash ∧
    (judgeCrossings s).disk = s.disk ∧ (judgeCrossings s).spindle = s.spindle ∧
    (judgeCrossings s).params = s.params ∧ (judgeCrossings s).choice = s.choice ∧
    (judgeCrossings s).pending = s.pending := by
  simp [judgeCrossings]

@[simp] theorem releaseHand_frame (s : State) :
    (releaseHand s).link = s.link ∧ (releaseHand s).commands = s.commands ∧ (releaseHand s).routing = s.routing ∧
    (releaseHand s).map = s.map ∧ (releaseHand s).ranges = s.ranges ∧ (releaseHand s).walk = s.walk ∧
    (releaseHand s).scanner = s.scanner ∧ (releaseHand s).heat = s.heat ∧ (releaseHand s).streams = s.streams ∧
    (releaseHand s).accesses = s.accesses ∧ (releaseHand s).arbiter = s.arbiter ∧ (releaseHand s).mover = s.mover ∧
    (releaseHand s).flash = s.flash ∧ (releaseHand s).disk = s.disk ∧ (releaseHand s).spindle = s.spindle ∧
    (releaseHand s).sup = s.sup ∧ (releaseHand s).params = s.params ∧ (releaseHand s).choice = s.choice ∧
    (releaseHand s).pending = s.pending := by
  unfold releaseHand; split <;> simp

@[simp] theorem putSlot_frame (i : Nat) (r : SlotRec) (s : State) :
    (putSlot i r s).link = s.link ∧ (putSlot i r s).commands = s.commands ∧ (putSlot i r s).routing = s.routing ∧
    (putSlot i r s).ranges = s.ranges ∧ (putSlot i r s).walk = s.walk ∧ (putSlot i r s).scanner = s.scanner ∧
    (putSlot i r s).heat = s.heat ∧ (putSlot i r s).streams = s.streams ∧ (putSlot i r s).accesses = s.accesses ∧
    (putSlot i r s).arbiter = s.arbiter ∧ (putSlot i r s).mover = s.mover ∧ (putSlot i r s).flash = s.flash ∧
    (putSlot i r s).disk = s.disk ∧ (putSlot i r s).spindle = s.spindle ∧ (putSlot i r s).sup = s.sup ∧
    (putSlot i r s).params = s.params ∧ (putSlot i r s).choice = s.choice ∧ (putSlot i r s).pending = s.pending := by
  unfold putSlot; (repeat' split) <;> simp

@[simp] theorem modifySlot_frame (i : Nat) (f : SlotRec → SlotRec) (s : State) :
    (modifySlot i f s).link = s.link ∧ (modifySlot i f s).commands = s.commands ∧
    (modifySlot i f s).routing = s.routing ∧ (modifySlot i f s).ranges = s.ranges ∧
    (modifySlot i f s).walk = s.walk ∧ (modifySlot i f s).scanner = s.scanner ∧ (modifySlot i f s).heat = s.heat ∧
    (modifySlot i f s).streams = s.streams ∧ (modifySlot i f s).accesses = s.accesses ∧
    (modifySlot i f s).arbiter = s.arbiter ∧ (modifySlot i f s).mover = s.mover ∧
    (modifySlot i f s).flash = s.flash ∧ (modifySlot i f s).disk = s.disk ∧ (modifySlot i f s).spindle = s.spindle ∧
    (modifySlot i f s).sup = s.sup ∧ (modifySlot i f s).params = s.params ∧ (modifySlot i f s).choice = s.choice ∧
    (modifySlot i f s).pending = s.pending := by
  simp [modifySlot]

@[simp] theorem sendCompletion_frame (c : Completion) (s : State) :
    (sendCompletion c s).commands = s.commands ∧ (sendCompletion c s).routing = s.routing ∧
    (sendCompletion c s).map = s.map ∧ (sendCompletion c s).ranges = s.ranges ∧ (sendCompletion c s).walk = s.walk ∧
    (sendCompletion c s).scanner = s.scanner ∧ (sendCompletion c s).heat = s.heat ∧
    (sendCompletion c s).streams = s.streams ∧ (sendCompletion c s).accesses = s.accesses ∧
    (sendCompletion c s).arbiter = s.arbiter ∧ (sendCompletion c s).mover = s.mover ∧
    (sendCompletion c s).reclaimer = s.reclaimer ∧ (sendCompletion c s).flash = s.flash ∧
    (sendCompletion c s).disk = s.disk ∧ (sendCompletion c s).spindle = s.spindle ∧
    (sendCompletion c s).sup = s.sup ∧ (sendCompletion c s).params = s.params ∧
    (sendCompletion c s).choice = s.choice ∧ (sendCompletion c s).pending = s.pending := by
  and_intros <;> rfl

@[simp] theorem updateCommand_frame (t : Nat) (f : CommandRec → CommandRec) (s : State) :
    (updateCommand t f s).link = s.link ∧ (updateCommand t f s).routing = s.routing ∧
    (updateCommand t f s).map = s.map ∧ (updateCommand t f s).ranges = s.ranges ∧
    (updateCommand t f s).walk = s.walk ∧ (updateCommand t f s).scanner = s.scanner ∧
    (updateCommand t f s).heat = s.heat ∧ (updateCommand t f s).streams = s.streams ∧
    (updateCommand t f s).accesses = s.accesses ∧ (updateCommand t f s).arbiter = s.arbiter ∧
    (updateCommand t f s).mover = s.mover ∧ (updateCommand t f s).reclaimer = s.reclaimer ∧
    (updateCommand t f s).flash = s.flash ∧ (updateCommand t f s).disk = s.disk ∧
    (updateCommand t f s).spindle = s.spindle ∧ (updateCommand t f s).sup = s.sup ∧
    (updateCommand t f s).params = s.params ∧ (updateCommand t f s).choice = s.choice ∧
    (updateCommand t f s).pending = s.pending := by
  and_intros <;> rfl

@[simp] theorem freeRecord_frame (t : Nat) (s : State) :
    (freeRecord t s).link = s.link ∧ (freeRecord t s).routing = s.routing ∧ (freeRecord t s).map = s.map ∧
    (freeRecord t s).ranges = s.ranges ∧ (freeRecord t s).walk = s.walk ∧ (freeRecord t s).scanner = s.scanner ∧
    (freeRecord t s).heat = s.heat ∧ (freeRecord t s).streams = s.streams ∧ (freeRecord t s).accesses = s.accesses ∧
    (freeRecord t s).arbiter = s.arbiter ∧ (freeRecord t s).mover = s.mover ∧
    (freeRecord t s).reclaimer = s.reclaimer ∧ (freeRecord t s).flash = s.flash ∧ (freeRecord t s).disk = s.disk ∧
    (freeRecord t s).spindle = s.spindle ∧ (freeRecord t s).sup = s.sup ∧ (freeRecord t s).params = s.params ∧
    (freeRecord t s).choice = s.choice ∧ (freeRecord t s).pending = s.pending := by
  and_intros <;> rfl

@[simp] theorem answer_frame (t : Nat) (st : Status) (lba : Option Nat) (res : Result) (s : State) :
    (answer t st lba res s).routing = s.routing ∧ (answer t st lba res s).map = s.map ∧
    (answer t st lba res s).ranges = s.ranges ∧ (answer t st lba res s).walk = s.walk ∧
    (answer t st lba res s).scanner = s.scanner ∧ (answer t st lba res s).heat = s.heat ∧
    (answer t st lba res s).streams = s.streams ∧ (answer t st lba res s).accesses = s.accesses ∧
    (answer t st lba res s).arbiter = s.arbiter ∧ (answer t st lba res s).mover = s.mover ∧
    (answer t st lba res s).reclaimer = s.reclaimer ∧ (answer t st lba res s).flash = s.flash ∧
    (answer t st lba res s).disk = s.disk ∧ (answer t st lba res s).spindle = s.spindle ∧
    (answer t st lba res s).sup = s.sup ∧ (answer t st lba res s).params = s.params ∧
    (answer t st lba res s).choice = s.choice ∧ (answer t st lba res s).pending = s.pending := by
  and_intros <;> rfl

@[simp] theorem answerGood_frame (t : Nat) (res : Result) (s : State) :
    (answerGood t res s).routing = s.routing ∧ (answerGood t res s).map = s.map ∧
    (answerGood t res s).ranges = s.ranges ∧ (answerGood t res s).walk = s.walk ∧
    (answerGood t res s).scanner = s.scanner ∧ (answerGood t res s).heat = s.heat ∧
    (answerGood t res s).streams = s.streams ∧ (answerGood t res s).accesses = s.accesses ∧
    (answerGood t res s).arbiter = s.arbiter ∧ (answerGood t res s).mover = s.mover ∧
    (answerGood t res s).reclaimer = s.reclaimer ∧ (answerGood t res s).flash = s.flash ∧
    (answerGood t res s).disk = s.disk ∧ (answerGood t res s).spindle = s.spindle ∧
    (answerGood t res s).sup = s.sup ∧ (answerGood t res s).params = s.params ∧
    (answerGood t res s).choice = s.choice ∧ (answerGood t res s).pending = s.pending := by
  and_intros <;> rfl

@[simp] theorem refuse_frame (t : Nat) (st : Status) (s : State) :
    (refuse t st s).routing = s.routing ∧ (refuse t st s).map = s.map ∧ (refuse t st s).ranges = s.ranges ∧
    (refuse t st s).walk = s.walk ∧ (refuse t st s).scanner = s.scanner ∧ (refuse t st s).heat = s.heat ∧
    (refuse t st s).streams = s.streams ∧ (refuse t st s).accesses = s.accesses ∧
    (refuse t st s).arbiter = s.arbiter ∧ (refuse t st s).mover = s.mover ∧
    (refuse t st s).reclaimer = s.reclaimer ∧ (refuse t st s).flash = s.flash ∧ (refuse t st s).disk = s.disk ∧
    (refuse t st s).spindle = s.spindle ∧ (refuse t st s).sup = s.sup ∧ (refuse t st s).params = s.params ∧
    (refuse t st s).choice = s.choice ∧ (refuse t st s).pending = s.pending := by
  and_intros <;> rfl

@[simp] theorem endHold_frame (s : State) :
    (endHold s).commands = s.commands ∧ (endHold s).routing = s.routing ∧ (endHold s).map = s.map ∧
    (endHold s).ranges = s.ranges ∧ (endHold s).walk = s.walk ∧ (endHold s).scanner = s.scanner ∧
    (endHold s).heat = s.heat ∧ (endHold s).streams = s.streams ∧ (endHold s).accesses = s.accesses ∧
    (endHold s).arbiter = s.arbiter ∧ (endHold s).mover = s.mover ∧ (endHold s).reclaimer = s.reclaimer ∧
    (endHold s).flash = s.flash ∧ (endHold s).disk = s.disk ∧ (endHold s).spindle = s.spindle ∧
    (endHold s).sup = s.sup ∧ (endHold s).params = s.params ∧ (endHold s).choice = s.choice ∧
    (endHold s).pending = s.pending := by
  and_intros <;> rfl

@[simp] theorem placeHold_frame (t : Nat) (op : HoldOp) (s : State) :
    (placeHold t op s).commands = s.commands ∧ (placeHold t op s).routing = s.routing ∧
    (placeHold t op s).map = s.map ∧ (placeHold t op s).ranges = s.ranges ∧ (placeHold t op s).walk = s.walk ∧
    (placeHold t op s).scanner = s.scanner ∧ (placeHold t op s).heat = s.heat ∧
    (placeHold t op s).streams = s.streams ∧ (placeHold t op s).accesses = s.accesses ∧
    (placeHold t op s).arbiter = s.arbiter ∧ (placeHold t op s).mover = s.mover ∧
    (placeHold t op s).reclaimer = s.reclaimer ∧ (placeHold t op s).flash = s.flash ∧
    (placeHold t op s).disk = s.disk ∧ (placeHold t op s).spindle = s.spindle ∧ (placeHold t op s).sup = s.sup ∧
    (placeHold t op s).params = s.params ∧ (placeHold t op s).choice = s.choice ∧
    (placeHold t op s).pending = s.pending := by
  and_intros <;> rfl

@[simp] theorem setCtx_frame (c : CtxId) (v : Option Context) (s : State) :
    (setCtx c v s).link = s.link ∧ (setCtx c v s).commands = s.commands ∧ (setCtx c v s).routing = s.routing ∧
    (setCtx c v s).map = s.map ∧ (setCtx c v s).ranges = s.ranges ∧ (setCtx c v s).walk = s.walk ∧
    (setCtx c v s).scanner = s.scanner ∧ (setCtx c v s).heat = s.heat ∧ (setCtx c v s).streams = s.streams ∧
    (setCtx c v s).accesses = s.accesses ∧ (setCtx c v s).arbiter = s.arbiter ∧
    (setCtx c v s).reclaimer = s.reclaimer ∧ (setCtx c v s).flash = s.flash ∧ (setCtx c v s).disk = s.disk ∧
    (setCtx c v s).spindle = s.spindle ∧ (setCtx c v s).sup = s.sup ∧ (setCtx c v s).params = s.params ∧
    (setCtx c v s).choice = s.choice ∧ (setCtx c v s).pending = s.pending := by
  cases c <;> simp [setCtx]

@[simp] theorem modifyCtx_frame (c : CtxId) (f : Context → Context) (s : State) :
    (modifyCtx c f s).link = s.link ∧ (modifyCtx c f s).commands = s.commands ∧
    (modifyCtx c f s).routing = s.routing ∧ (modifyCtx c f s).map = s.map ∧ (modifyCtx c f s).ranges = s.ranges ∧
    (modifyCtx c f s).walk = s.walk ∧ (modifyCtx c f s).scanner = s.scanner ∧ (modifyCtx c f s).heat = s.heat ∧
    (modifyCtx c f s).streams = s.streams ∧ (modifyCtx c f s).accesses = s.accesses ∧
    (modifyCtx c f s).arbiter = s.arbiter ∧ (modifyCtx c f s).reclaimer = s.reclaimer ∧
    (modifyCtx c f s).flash = s.flash ∧ (modifyCtx c f s).disk = s.disk ∧ (modifyCtx c f s).spindle = s.spindle ∧
    (modifyCtx c f s).sup = s.sup ∧ (modifyCtx c f s).params = s.params ∧ (modifyCtx c f s).choice = s.choice ∧
    (modifyCtx c f s).pending = s.pending := by
  simp [modifyCtx]

@[simp] theorem setService_frame (k : JobClass) (v : Service) (s : State) :
    (setService k v s).link = s.link ∧ (setService k v s).commands = s.commands ∧
    (setService k v s).routing = s.routing ∧ (setService k v s).map = s.map ∧ (setService k v s).ranges = s.ranges ∧
    (setService k v s).walk = s.walk ∧ (setService k v s).scanner = s.scanner ∧ (setService k v s).heat = s.heat ∧
    (setService k v s).streams = s.streams ∧ (setService k v s).accesses = s.accesses ∧
    (setService k v s).mover = s.mover ∧ (setService k v s).reclaimer = s.reclaimer ∧
    (setService k v s).flash = s.flash ∧ (setService k v s).disk = s.disk ∧ (setService k v s).spindle = s.spindle ∧
    (setService k v s).sup = s.sup ∧ (setService k v s).params = s.params ∧ (setService k v s).choice = s.choice ∧
    (setService k v s).pending = s.pending := by
  and_intros <;> rfl

@[simp] theorem setPort_frame (p : Port) (u : PortUnit) (s : State) :
    (setPort p u s).link = s.link ∧ (setPort p u s).commands = s.commands ∧ (setPort p u s).routing = s.routing ∧
    (setPort p u s).map = s.map ∧ (setPort p u s).ranges = s.ranges ∧ (setPort p u s).walk = s.walk ∧
    (setPort p u s).scanner = s.scanner ∧ (setPort p u s).heat = s.heat ∧ (setPort p u s).streams = s.streams ∧
    (setPort p u s).accesses = s.accesses ∧ (setPort p u s).arbiter = s.arbiter ∧ (setPort p u s).mover = s.mover ∧
    (setPort p u s).reclaimer = s.reclaimer ∧ (setPort p u s).spindle = s.spindle ∧ (setPort p u s).sup = s.sup ∧
    (setPort p u s).params = s.params ∧ (setPort p u s).choice = s.choice ∧ (setPort p u s).pending = s.pending := by
  cases p <;> simp [setPort]

@[simp] theorem setPort_disk_frame (u : PortUnit) (s : State) :
    (setPort .disk u s).link = s.link ∧ (setPort .disk u s).commands = s.commands ∧
    (setPort .disk u s).routing = s.routing ∧ (setPort .disk u s).map = s.map ∧
    (setPort .disk u s).ranges = s.ranges ∧ (setPort .disk u s).walk = s.walk ∧
    (setPort .disk u s).scanner = s.scanner ∧ (setPort .disk u s).heat = s.heat ∧
    (setPort .disk u s).streams = s.streams ∧ (setPort .disk u s).accesses = s.accesses ∧
    (setPort .disk u s).arbiter = s.arbiter ∧ (setPort .disk u s).mover = s.mover ∧
    (setPort .disk u s).reclaimer = s.reclaimer ∧ (setPort .disk u s).flash = s.flash ∧
    (setPort .disk u s).spindle = s.spindle ∧ (setPort .disk u s).sup = s.sup ∧
    (setPort .disk u s).params = s.params ∧ (setPort .disk u s).choice = s.choice ∧
    (setPort .disk u s).pending = s.pending := by
  and_intros <;> rfl

@[simp] theorem setPort_flash_frame (u : PortUnit) (s : State) :
    (setPort .flash u s).link = s.link ∧ (setPort .flash u s).commands = s.commands ∧
    (setPort .flash u s).routing = s.routing ∧ (setPort .flash u s).map = s.map ∧
    (setPort .flash u s).ranges = s.ranges ∧ (setPort .flash u s).walk = s.walk ∧
    (setPort .flash u s).scanner = s.scanner ∧ (setPort .flash u s).heat = s.heat ∧
    (setPort .flash u s).streams = s.streams ∧ (setPort .flash u s).accesses = s.accesses ∧
    (setPort .flash u s).arbiter = s.arbiter ∧ (setPort .flash u s).mover = s.mover ∧
    (setPort .flash u s).reclaimer = s.reclaimer ∧ (setPort .flash u s).disk = s.disk ∧
    (setPort .flash u s).spindle = s.spindle ∧ (setPort .flash u s).sup = s.sup ∧
    (setPort .flash u s).params = s.params ∧ (setPort .flash u s).choice = s.choice ∧
    (setPort .flash u s).pending = s.pending := by
  and_intros <;> rfl

@[simp] theorem spendChoice_frame (s : State) :
    (spendChoice s).link = s.link ∧ (spendChoice s).commands = s.commands ∧ (spendChoice s).routing = s.routing ∧
    (spendChoice s).map = s.map ∧ (spendChoice s).ranges = s.ranges ∧ (spendChoice s).walk = s.walk ∧
    (spendChoice s).scanner = s.scanner ∧ (spendChoice s).heat = s.heat ∧ (spendChoice s).streams = s.streams ∧
    (spendChoice s).accesses = s.accesses ∧ (spendChoice s).arbiter = s.arbiter ∧ (spendChoice s).mover = s.mover ∧
    (spendChoice s).reclaimer = s.reclaimer ∧ (spendChoice s).flash = s.flash ∧ (spendChoice s).disk = s.disk ∧
    (spendChoice s).spindle = s.spindle ∧ (spendChoice s).sup = s.sup ∧ (spendChoice s).params = s.params ∧
    (spendChoice s).pending = s.pending := by
  and_intros <;> rfl

@[simp] theorem sendWaiting_frame (p : Port) (s : State) :
    (sendWaiting p s).link = s.link ∧ (sendWaiting p s).commands = s.commands ∧
    (sendWaiting p s).routing = s.routing ∧ (sendWaiting p s).map = s.map ∧ (sendWaiting p s).ranges = s.ranges ∧
    (sendWaiting p s).walk = s.walk ∧ (sendWaiting p s).scanner = s.scanner ∧ (sendWaiting p s).heat = s.heat ∧
    (sendWaiting p s).streams = s.streams ∧ (sendWaiting p s).accesses = s.accesses ∧
    (sendWaiting p s).arbiter = s.arbiter ∧ (sendWaiting p s).mover = s.mover ∧
    (sendWaiting p s).reclaimer = s.reclaimer ∧ (sendWaiting p s).spindle = s.spindle ∧
    (sendWaiting p s).sup = s.sup ∧ (sendWaiting p s).params = s.params ∧ (sendWaiting p s).choice = s.choice ∧
    (sendWaiting p s).pending = s.pending := by
  unfold sendWaiting; split <;> simp

@[simp] theorem joinPort_frame (p : Port) (x : Piece) (s : State) :
    (joinPort p x s).link = s.link ∧ (joinPort p x s).commands = s.commands ∧ (joinPort p x s).routing = s.routing ∧
    (joinPort p x s).map = s.map ∧ (joinPort p x s).ranges = s.ranges ∧ (joinPort p x s).walk = s.walk ∧
    (joinPort p x s).scanner = s.scanner ∧ (joinPort p x s).heat = s.heat ∧ (joinPort p x s).streams = s.streams ∧
    (joinPort p x s).accesses = s.accesses ∧ (joinPort p x s).arbiter = s.arbiter ∧
    (joinPort p x s).mover = s.mover ∧ (joinPort p x s).reclaimer = s.reclaimer ∧
    (joinPort p x s).spindle = s.spindle ∧ (joinPort p x s).sup = s.sup ∧ (joinPort p x s).params = s.params ∧
    (joinPort p x s).choice = s.choice ∧ (joinPort p x s).pending = s.pending := by
  simp [joinPort]

@[simp] theorem sendMessage_frame (p : Port) (m : PortMessage) (s : State) :
    (sendMessage p m s).link = s.link ∧ (sendMessage p m s).commands = s.commands ∧
    (sendMessage p m s).routing = s.routing ∧ (sendMessage p m s).map = s.map ∧
    (sendMessage p m s).ranges = s.ranges ∧ (sendMessage p m s).walk = s.walk ∧
    (sendMessage p m s).scanner = s.scanner ∧ (sendMessage p m s).heat = s.heat ∧
    (sendMessage p m s).streams = s.streams ∧ (sendMessage p m s).accesses = s.accesses ∧
    (sendMessage p m s).arbiter = s.arbiter ∧ (sendMessage p m s).mover = s.mover ∧
    (sendMessage p m s).reclaimer = s.reclaimer ∧ (sendMessage p m s).spindle = s.spindle ∧
    (sendMessage p m s).sup = s.sup ∧ (sendMessage p m s).params = s.params ∧
    (sendMessage p m s).choice = s.choice ∧ (sendMessage p m s).pending = s.pending := by
  simp [sendMessage]

@[simp] theorem sendStart_frame (s : State) :
    (sendStart s).link = s.link ∧ (sendStart s).commands = s.commands ∧ (sendStart s).routing = s.routing ∧
    (sendStart s).map = s.map ∧ (sendStart s).ranges = s.ranges ∧ (sendStart s).walk = s.walk ∧
    (sendStart s).scanner = s.scanner ∧ (sendStart s).heat = s.heat ∧ (sendStart s).streams = s.streams ∧
    (sendStart s).accesses = s.accesses ∧ (sendStart s).arbiter = s.arbiter ∧ (sendStart s).mover = s.mover ∧
    (sendStart s).reclaimer = s.reclaimer ∧ (sendStart s).flash = s.flash ∧ (sendStart s).sup = s.sup ∧
    (sendStart s).params = s.params ∧ (sendStart s).choice = s.choice ∧ (sendStart s).pending = s.pending := by
  and_intros <;> rfl

@[simp] theorem sendStop_frame (s : State) :
    (sendStop s).link = s.link ∧ (sendStop s).commands = s.commands ∧ (sendStop s).routing = s.routing ∧
    (sendStop s).map = s.map ∧ (sendStop s).ranges = s.ranges ∧ (sendStop s).walk = s.walk ∧
    (sendStop s).scanner = s.scanner ∧ (sendStop s).heat = s.heat ∧ (sendStop s).streams = s.streams ∧
    (sendStop s).accesses = s.accesses ∧ (sendStop s).arbiter = s.arbiter ∧ (sendStop s).mover = s.mover ∧
    (sendStop s).reclaimer = s.reclaimer ∧ (sendStop s).flash = s.flash ∧ (sendStop s).sup = s.sup ∧
    (sendStop s).params = s.params ∧ (sendStop s).choice = s.choice ∧ (sendStop s).pending = s.pending := by
  and_intros <;> rfl

@[simp] theorem actOnNeed_frame (s : State) :
    (actOnNeed s).link = s.link ∧ (actOnNeed s).commands = s.commands ∧ (actOnNeed s).routing = s.routing ∧
    (actOnNeed s).map = s.map ∧ (actOnNeed s).ranges = s.ranges ∧ (actOnNeed s).walk = s.walk ∧
    (actOnNeed s).scanner = s.scanner ∧ (actOnNeed s).heat = s.heat ∧ (actOnNeed s).streams = s.streams ∧
    (actOnNeed s).accesses = s.accesses ∧ (actOnNeed s).arbiter = s.arbiter ∧ (actOnNeed s).mover = s.mover ∧
    (actOnNeed s).reclaimer = s.reclaimer ∧ (actOnNeed s).flash = s.flash ∧ (actOnNeed s).sup = s.sup ∧
    (actOnNeed s).params = s.params ∧ (actOnNeed s).choice = s.choice ∧ (actOnNeed s).pending = s.pending := by
  unfold actOnNeed; (repeat' split) <;> simp

@[simp] theorem idleScanner_frame (s : State) :
    (idleScanner s).link = s.link ∧ (idleScanner s).commands = s.commands ∧ (idleScanner s).routing = s.routing ∧
    (idleScanner s).map = s.map ∧ (idleScanner s).ranges = s.ranges ∧ (idleScanner s).walk = s.walk ∧
    (idleScanner s).heat = s.heat ∧ (idleScanner s).streams = s.streams ∧ (idleScanner s).accesses = s.accesses ∧
    (idleScanner s).arbiter = s.arbiter ∧ (idleScanner s).mover = s.mover ∧
    (idleScanner s).reclaimer = s.reclaimer ∧ (idleScanner s).flash = s.flash ∧ (idleScanner s).disk = s.disk ∧
    (idleScanner s).spindle = s.spindle ∧ (idleScanner s).sup = s.sup ∧ (idleScanner s).params = s.params ∧
    (idleScanner s).choice = s.choice ∧ (idleScanner s).pending = s.pending := by
  and_intros <;> rfl

@[simp] theorem restartScanner_frame (s : State) :
    (restartScanner s).link = s.link ∧ (restartScanner s).commands = s.commands ∧
    (restartScanner s).routing = s.routing ∧ (restartScanner s).map = s.map ∧ (restartScanner s).ranges = s.ranges ∧
    (restartScanner s).walk = s.walk ∧ (restartScanner s).heat = s.heat ∧ (restartScanner s).streams = s.streams ∧
    (restartScanner s).accesses = s.accesses ∧ (restartScanner s).arbiter = s.arbiter ∧
    (restartScanner s).mover = s.mover ∧ (restartScanner s).reclaimer = s.reclaimer ∧
    (restartScanner s).flash = s.flash ∧ (restartScanner s).disk = s.disk ∧ (restartScanner s).spindle = s.spindle ∧
    (restartScanner s).sup = s.sup ∧ (restartScanner s).params = s.params ∧ (restartScanner s).choice = s.choice ∧
    (restartScanner s).pending = s.pending := by
  unfold restartScanner; (repeat' split) <;> simp

@[simp] theorem judgeStall_frame (s : State) :
    (judgeStall s).link = s.link ∧ (judgeStall s).commands = s.commands ∧ (judgeStall s).routing = s.routing ∧
    (judgeStall s).map = s.map ∧ (judgeStall s).ranges = s.ranges ∧ (judgeStall s).walk = s.walk ∧
    (judgeStall s).heat = s.heat ∧ (judgeStall s).streams = s.streams ∧ (judgeStall s).accesses = s.accesses ∧
    (judgeStall s).arbiter = s.arbiter ∧ (judgeStall s).mover = s.mover ∧ (judgeStall s).reclaimer = s.reclaimer ∧
    (judgeStall s).flash = s.flash ∧ (judgeStall s).disk = s.disk ∧ (judgeStall s).spindle = s.spindle ∧
    (judgeStall s).params = s.params ∧ (judgeStall s).choice = s.choice ∧ (judgeStall s).pending = s.pending := by
  unfold judgeStall; (repeat' split) <;> simp

@[simp] theorem enqueue_frame (k : JobClass) (j : Job) (s : State) :
    (enqueue k j s).link = s.link ∧ (enqueue k j s).commands = s.commands ∧ (enqueue k j s).routing = s.routing ∧
    (enqueue k j s).ranges = s.ranges ∧ (enqueue k j s).walk = s.walk ∧ (enqueue k j s).scanner = s.scanner ∧
    (enqueue k j s).heat = s.heat ∧ (enqueue k j s).streams = s.streams ∧ (enqueue k j s).accesses = s.accesses ∧
    (enqueue k j s).mover = s.mover ∧ (enqueue k j s).flash = s.flash ∧ (enqueue k j s).disk = s.disk ∧
    (enqueue k j s).spindle = s.spindle ∧ (enqueue k j s).sup = s.sup ∧ (enqueue k j s).params = s.params ∧
    (enqueue k j s).choice = s.choice ∧ (enqueue k j s).pending = s.pending := by
  unfold enqueue; dsimp only; split <;> simp

@[simp] theorem post_frame (k : JobClass) (j : Job) (s : State) :
    (post k j s).link = s.link ∧ (post k j s).commands = s.commands ∧ (post k j s).routing = s.routing ∧
    (post k j s).ranges = s.ranges ∧ (post k j s).walk = s.walk ∧ (post k j s).scanner = s.scanner ∧
    (post k j s).heat = s.heat ∧ (post k j s).streams = s.streams ∧ (post k j s).accesses = s.accesses ∧
    (post k j s).mover = s.mover ∧ (post k j s).flash = s.flash ∧ (post k j s).disk = s.disk ∧
    (post k j s).spindle = s.spindle ∧ (post k j s).params = s.params ∧ (post k j s).choice = s.choice ∧
    (post k j s).pending = s.pending := by
  unfold post; (repeat' split) <;> simp

end Sys2Proof.Machine
end

