-- ==== Sys2Proof/Laws/Frames.lean ====
section
/-! SUPPORT. What each operation of a block leaves unchanged: one lemma for each, a conjunction over the fields it does
not write, as in Laws/State.lean. -/

namespace Sys2Proof.Machine

@[simp] theorem putHeat_frame (i : Nat) (e : Option HeatEntry) (s : State) :
    (putHeat i e s).link = s.link ∧ (putHeat i e s).commands = s.commands ∧ (putHeat i e s).routing = s.routing ∧
    (putHeat i e s).map = s.map ∧ (putHeat i e s).ranges = s.ranges ∧ (putHeat i e s).walk = s.walk ∧
    (putHeat i e s).scanner = s.scanner ∧ (putHeat i e s).streams = s.streams ∧
    (putHeat i e s).accesses = s.accesses ∧ (putHeat i e s).arbiter = s.arbiter ∧ (putHeat i e s).mover = s.mover ∧
    (putHeat i e s).reclaimer = s.reclaimer ∧ (putHeat i e s).flash = s.flash ∧ (putHeat i e s).disk = s.disk ∧
    (putHeat i e s).spindle = s.spindle ∧ (putHeat i e s).sup = s.sup ∧ (putHeat i e s).params = s.params ∧
    (putHeat i e s).choice = s.choice ∧ (putHeat i e s).pending = s.pending := by
  and_intros <;> rfl

@[simp] theorem setVictim_frame (v : Option Nat) (s : State) :
    (setVictim v s).link = s.link ∧ (setVictim v s).commands = s.commands ∧ (setVictim v s).routing = s.routing ∧
    (setVictim v s).map = s.map ∧ (setVictim v s).ranges = s.ranges ∧ (setVictim v s).walk = s.walk ∧
    (setVictim v s).scanner = s.scanner ∧ (setVictim v s).streams = s.streams ∧
    (setVictim v s).accesses = s.accesses ∧ (setVictim v s).arbiter = s.arbiter ∧ (setVictim v s).mover = s.mover ∧
    (setVictim v s).reclaimer = s.reclaimer ∧ (setVictim v s).flash = s.flash ∧ (setVictim v s).disk = s.disk ∧
    (setVictim v s).spindle = s.spindle ∧ (setVictim v s).sup = s.sup ∧ (setVictim v s).params = s.params ∧
    (setVictim v s).choice = s.choice ∧ (setVictim v s).pending = s.pending := by
  and_intros <;> rfl

@[simp] theorem detectStream_frame (lba count : Nat) (s : State) :
    (detectStream lba count s).link = s.link ∧ (detectStream lba count s).commands = s.commands ∧
    (detectStream lba count s).routing = s.routing ∧ (detectStream lba count s).map = s.map ∧
    (detectStream lba count s).ranges = s.ranges ∧ (detectStream lba count s).walk = s.walk ∧
    (detectStream lba count s).scanner = s.scanner ∧ (detectStream lba count s).heat = s.heat ∧
    (detectStream lba count s).accesses = s.accesses ∧ (detectStream lba count s).arbiter = s.arbiter ∧
    (detectStream lba count s).mover = s.mover ∧ (detectStream lba count s).reclaimer = s.reclaimer ∧
    (detectStream lba count s).flash = s.flash ∧ (detectStream lba count s).disk = s.disk ∧
    (detectStream lba count s).spindle = s.spindle ∧ (detectStream lba count s).sup = s.sup ∧
    (detectStream lba count s).params = s.params ∧ (detectStream lba count s).choice = s.choice ∧
    (detectStream lba count s).pending = s.pending := by
  unfold detectStream; split <;> simp

@[simp] theorem postHotFill_frame (c : Nat) (s : State) :
    (postHotFill c s).link = s.link ∧ (postHotFill c s).commands = s.commands ∧
    (postHotFill c s).routing = s.routing ∧ (postHotFill c s).ranges = s.ranges ∧ (postHotFill c s).walk = s.walk ∧
    (postHotFill c s).scanner = s.scanner ∧ (postHotFill c s).heat = s.heat ∧
    (postHotFill c s).streams = s.streams ∧ (postHotFill c s).accesses = s.accesses ∧
    (postHotFill c s).mover = s.mover ∧ (postHotFill c s).flash = s.flash ∧ (postHotFill c s).disk = s.disk ∧
    (postHotFill c s).spindle = s.spindle ∧ (postHotFill c s).params = s.params ∧
    (postHotFill c s).choice = s.choice ∧ (postHotFill c s).pending = s.pending := by
  unfold postHotFill; split <;> simp

@[simp] theorem postHotFills_frame (g : Nat) (t : ChunkSet) (s : State) :
    (postHotFills g t s).link = s.link ∧ (postHotFills g t s).commands = s.commands ∧
    (postHotFills g t s).routing = s.routing ∧ (postHotFills g t s).ranges = s.ranges ∧
    (postHotFills g t s).walk = s.walk ∧ (postHotFills g t s).scanner = s.scanner ∧
    (postHotFills g t s).heat = s.heat ∧ (postHotFills g t s).streams = s.streams ∧
    (postHotFills g t s).accesses = s.accesses ∧ (postHotFills g t s).mover = s.mover ∧
    (postHotFills g t s).flash = s.flash ∧ (postHotFills g t s).disk = s.disk ∧
    (postHotFills g t s).spindle = s.spindle ∧ (postHotFills g t s).params = s.params ∧
    (postHotFills g t s).choice = s.choice ∧ (postHotFills g t s).pending = s.pending := by
  unfold postHotFills; and_intros <;> (apply foldl_keeps; intros; simp)

@[simp] theorem overwriteVictim_frame (a : Access) (s : State) :
    (overwriteVictim a s).link = s.link ∧ (overwriteVictim a s).commands = s.commands ∧
    (overwriteVictim a s).routing = s.routing ∧ (overwriteVictim a s).map = s.map ∧
    (overwriteVictim a s).ranges = s.ranges ∧ (overwriteVictim a s).walk = s.walk ∧
    (overwriteVictim a s).scanner = s.scanner ∧ (overwriteVictim a s).streams = s.streams ∧
    (overwriteVictim a s).accesses = s.accesses ∧ (overwriteVictim a s).arbiter = s.arbiter ∧
    (overwriteVictim a s).mover = s.mover ∧ (overwriteVictim a s).reclaimer = s.reclaimer ∧
    (overwriteVictim a s).flash = s.flash ∧ (overwriteVictim a s).disk = s.disk ∧
    (overwriteVictim a s).spindle = s.spindle ∧ (overwriteVictim a s).sup = s.sup ∧
    (overwriteVictim a s).params = s.params ∧ (overwriteVictim a s).choice = s.choice ∧
    (overwriteVictim a s).pending = s.pending := by
  unfold overwriteVictim; (repeat' split) <;> simp

@[simp] theorem takeAccess_frame (a : Access) (s : State) :
    (takeAccess a s).link = s.link ∧ (takeAccess a s).commands = s.commands ∧ (takeAccess a s).routing = s.routing ∧
    (takeAccess a s).ranges = s.ranges ∧ (takeAccess a s).walk = s.walk ∧ (takeAccess a s).scanner = s.scanner ∧
    (takeAccess a s).streams = s.streams ∧ (takeAccess a s).accesses = s.accesses ∧
    (takeAccess a s).mover = s.mover ∧ (takeAccess a s).flash = s.flash ∧ (takeAccess a s).disk = s.disk ∧
    (takeAccess a s).spindle = s.spindle ∧ (takeAccess a s).params = s.params ∧ (takeAccess a s).choice = s.choice ∧
    (takeAccess a s).pending = s.pending := by
  unfold takeAccess; dsimp only; (repeat' split) <;> simp

@[simp] theorem hintChunk_frame (c : Nat) (s : State) :
    (hintChunk c s).link = s.link ∧ (hintChunk c s).commands = s.commands ∧ (hintChunk c s).routing = s.routing ∧
    (hintChunk c s).ranges = s.ranges ∧ (hintChunk c s).walk = s.walk ∧ (hintChunk c s).scanner = s.scanner ∧
    (hintChunk c s).heat = s.heat ∧ (hintChunk c s).streams = s.streams ∧ (hintChunk c s).accesses = s.accesses ∧
    (hintChunk c s).arbiter = s.arbiter ∧ (hintChunk c s).mover = s.mover ∧ (hintChunk c s).flash = s.flash ∧
    (hintChunk c s).disk = s.disk ∧ (hintChunk c s).spindle = s.spindle ∧ (hintChunk c s).sup = s.sup ∧
    (hintChunk c s).params = s.params ∧ (hintChunk c s).choice = s.choice ∧ (hintChunk c s).pending = s.pending := by
  unfold hintChunk; split <;> simp

@[simp] theorem demotionHint_frame (g : Nat) (t : ChunkSet) (s : State) :
    (demotionHint g t s).link = s.link ∧ (demotionHint g t s).commands = s.commands ∧
    (demotionHint g t s).routing = s.routing ∧ (demotionHint g t s).ranges = s.ranges ∧
    (demotionHint g t s).walk = s.walk ∧ (demotionHint g t s).scanner = s.scanner ∧
    (demotionHint g t s).heat = s.heat ∧ (demotionHint g t s).streams = s.streams ∧
    (demotionHint g t s).accesses = s.accesses ∧ (demotionHint g t s).arbiter = s.arbiter ∧
    (demotionHint g t s).mover = s.mover ∧ (demotionHint g t s).flash = s.flash ∧
    (demotionHint g t s).disk = s.disk ∧ (demotionHint g t s).spindle = s.spindle ∧
    (demotionHint g t s).sup = s.sup ∧ (demotionHint g t s).params = s.params ∧
    (demotionHint g t s).choice = s.choice ∧ (demotionHint g t s).pending = s.pending := by
  unfold demotionHint; and_intros <;> (apply foldl_keeps; intros; simp)

@[simp] theorem updateVictim_frame (i : Nat) (e : HeatEntry) (s : State) :
    (updateVictim i e s).link = s.link ∧ (updateVictim i e s).commands = s.commands ∧
    (updateVictim i e s).routing = s.routing ∧ (updateVictim i e s).map = s.map ∧
    (updateVictim i e s).ranges = s.ranges ∧ (updateVictim i e s).walk = s.walk ∧
    (updateVictim i e s).scanner = s.scanner ∧ (updateVictim i e s).streams = s.streams ∧
    (updateVictim i e s).accesses = s.accesses ∧ (updateVictim i e s).arbiter = s.arbiter ∧
    (updateVictim i e s).mover = s.mover ∧ (updateVictim i e s).reclaimer = s.reclaimer ∧
    (updateVictim i e s).flash = s.flash ∧ (updateVictim i e s).disk = s.disk ∧
    (updateVictim i e s).spindle = s.spindle ∧ (updateVictim i e s).sup = s.sup ∧
    (updateVictim i e s).params = s.params ∧ (updateVictim i e s).choice = s.choice ∧
    (updateVictim i e s).pending = s.pending := by
  unfold updateVictim; (repeat' split) <;> simp

@[simp] theorem visitEntry_frame (i : Nat) (e : HeatEntry) (s : State) :
    (visitEntry i e s).link = s.link ∧ (visitEntry i e s).commands = s.commands ∧
    (visitEntry i e s).routing = s.routing ∧ (visitEntry i e s).ranges = s.ranges ∧
    (visitEntry i e s).walk = s.walk ∧ (visitEntry i e s).scanner = s.scanner ∧
    (visitEntry i e s).streams = s.streams ∧ (visitEntry i e s).accesses = s.accesses ∧
    (visitEntry i e s).mover = s.mover ∧ (visitEntry i e s).flash = s.flash ∧ (visitEntry i e s).disk = s.disk ∧
    (visitEntry i e s).spindle = s.spindle ∧ (visitEntry i e s).params = s.params ∧
    (visitEntry i e s).choice = s.choice ∧ (visitEntry i e s).pending = s.pending := by
  unfold visitEntry; dsimp only; (repeat' split) <;> simp

@[simp] theorem sweep_frame (s : State) :
    (sweep s).link = s.link ∧ (sweep s).commands = s.commands ∧ (sweep s).routing = s.routing ∧
    (sweep s).ranges = s.ranges ∧ (sweep s).walk = s.walk ∧ (sweep s).scanner = s.scanner ∧
    (sweep s).streams = s.streams ∧ (sweep s).accesses = s.accesses ∧ (sweep s).mover = s.mover ∧
    (sweep s).flash = s.flash ∧ (sweep s).disk = s.disk ∧ (sweep s).spindle = s.spindle ∧
    (sweep s).params = s.params ∧ (sweep s).choice = s.choice ∧ (sweep s).pending = s.pending := by
  unfold sweep; dsimp only; split <;> simp

@[simp] theorem completeIfDone_frame (t : Nat) (s : State) :
    (completeIfDone t s).routing = s.routing ∧ (completeIfDone t s).map = s.map ∧
    (completeIfDone t s).ranges = s.ranges ∧ (completeIfDone t s).walk = s.walk ∧
    (completeIfDone t s).scanner = s.scanner ∧ (completeIfDone t s).heat = s.heat ∧
    (completeIfDone t s).streams = s.streams ∧ (completeIfDone t s).accesses = s.accesses ∧
    (completeIfDone t s).arbiter = s.arbiter ∧ (completeIfDone t s).mover = s.mover ∧
    (completeIfDone t s).reclaimer = s.reclaimer ∧ (completeIfDone t s).flash = s.flash ∧
    (completeIfDone t s).disk = s.disk ∧ (completeIfDone t s).spindle = s.spindle ∧
    (completeIfDone t s).sup = s.sup ∧ (completeIfDone t s).params = s.params ∧
    (completeIfDone t s).choice = s.choice ∧ (completeIfDone t s).pending = s.pending := by
  unfold completeIfDone; (repeat' split) <;> simp

@[simp] theorem hostPieceMap_frame (b : List Piece) (x : Piece) (st : PieceStatus) (s : State) :
    (hostPieceMap b x st s).link = s.link ∧ (hostPieceMap b x st s).commands = s.commands ∧
    (hostPieceMap b x st s).routing = s.routing ∧ (hostPieceMap b x st s).ranges = s.ranges ∧
    (hostPieceMap b x st s).walk = s.walk ∧ (hostPieceMap b x st s).scanner = s.scanner ∧
    (hostPieceMap b x st s).heat = s.heat ∧ (hostPieceMap b x st s).streams = s.streams ∧
    (hostPieceMap b x st s).accesses = s.accesses ∧ (hostPieceMap b x st s).arbiter = s.arbiter ∧
    (hostPieceMap b x st s).mover = s.mover ∧ (hostPieceMap b x st s).flash = s.flash ∧
    (hostPieceMap b x st s).disk = s.disk ∧ (hostPieceMap b x st s).spindle = s.spindle ∧
    (hostPieceMap b x st s).sup = s.sup ∧ (hostPieceMap b x st s).params = s.params ∧
    (hostPieceMap b x st s).choice = s.choice ∧ (hostPieceMap b x st s).pending = s.pending := by
  unfold hostPieceMap; split <;> simp

@[simp] theorem makeFallback_frame (t : Nat) (s : State) (run : Nat × Nat) :
    (makeFallback t s run).link = s.link ∧ (makeFallback t s run).routing = s.routing ∧
    (makeFallback t s run).map = s.map ∧ (makeFallback t s run).ranges = s.ranges ∧
    (makeFallback t s run).walk = s.walk ∧ (makeFallback t s run).scanner = s.scanner ∧
    (makeFallback t s run).heat = s.heat ∧ (makeFallback t s run).streams = s.streams ∧
    (makeFallback t s run).accesses = s.accesses ∧ (makeFallback t s run).arbiter = s.arbiter ∧
    (makeFallback t s run).mover = s.mover ∧ (makeFallback t s run).reclaimer = s.reclaimer ∧
    (makeFallback t s run).spindle = s.spindle ∧ (makeFallback t s run).sup = s.sup ∧
    (makeFallback t s run).params = s.params ∧ (makeFallback t s run).pending = s.pending := by
  unfold makeFallback; dsimp only; (repeat' split) <;> simp

@[simp] theorem foldl_makeFallback_frame (t : Nat) (l : List (Nat × Nat)) (s : State) :
    (l.foldl (makeFallback t) s).link = s.link ∧ (l.foldl (makeFallback t) s).routing = s.routing ∧
    (l.foldl (makeFallback t) s).map = s.map ∧ (l.foldl (makeFallback t) s).ranges = s.ranges ∧
    (l.foldl (makeFallback t) s).walk = s.walk ∧ (l.foldl (makeFallback t) s).scanner = s.scanner ∧
    (l.foldl (makeFallback t) s).heat = s.heat ∧ (l.foldl (makeFallback t) s).streams = s.streams ∧
    (l.foldl (makeFallback t) s).accesses = s.accesses ∧ (l.foldl (makeFallback t) s).arbiter = s.arbiter ∧
    (l.foldl (makeFallback t) s).mover = s.mover ∧ (l.foldl (makeFallback t) s).reclaimer = s.reclaimer ∧
    (l.foldl (makeFallback t) s).spindle = s.spindle ∧ (l.foldl (makeFallback t) s).sup = s.sup ∧
    (l.foldl (makeFallback t) s).params = s.params ∧ (l.foldl (makeFallback t) s).pending = s.pending := by
  and_intros <;> (apply foldl_keeps; intros; simp)

@[simp] theorem takeHostPiece_frame (p : Port) (b : List Piece) (x : Piece) (st : PieceStatus) (s : State) :
    (takeHostPiece p b x st s).routing = s.routing ∧ (takeHostPiece p b x st s).ranges = s.ranges ∧
    (takeHostPiece p b x st s).walk = s.walk ∧ (takeHostPiece p b x st s).scanner = s.scanner ∧
    (takeHostPiece p b x st s).heat = s.heat ∧ (takeHostPiece p b x st s).streams = s.streams ∧
    (takeHostPiece p b x st s).accesses = s.accesses ∧ (takeHostPiece p b x st s).arbiter = s.arbiter ∧
    (takeHostPiece p b x st s).mover = s.mover ∧ (takeHostPiece p b x st s).spindle = s.spindle ∧
    (takeHostPiece p b x st s).sup = s.sup ∧ (takeHostPiece p b x st s).params = s.params ∧
    (takeHostPiece p b x st s).pending = s.pending := by
  unfold takeHostPiece; dsimp only; split <;> simp

@[simp] theorem makeHostPiece_frame (t : Nat) (s : State) (q : PieceSpec) :
    (makeHostPiece t s q).routing = s.routing ∧ (makeHostPiece t s q).ranges = s.ranges ∧
    (makeHostPiece t s q).walk = s.walk ∧ (makeHostPiece t s q).scanner = s.scanner ∧
    (makeHostPiece t s q).heat = s.heat ∧ (makeHostPiece t s q).streams = s.streams ∧
    (makeHostPiece t s q).accesses = s.accesses ∧ (makeHostPiece t s q).arbiter = s.arbiter ∧
    (makeHostPiece t s q).mover = s.mover ∧ (makeHostPiece t s q).spindle = s.spindle ∧
    (makeHostPiece t s q).sup = s.sup ∧ (makeHostPiece t s q).params = s.params ∧
    (makeHostPiece t s q).pending = s.pending := by
  unfold makeHostPiece; dsimp only; (repeat' split) <;> simp

@[simp] theorem foldl_makeHostPiece_frame (t : Nat) (l : List PieceSpec) (s : State) :
    (l.foldl (makeHostPiece t) s).routing = s.routing ∧ (l.foldl (makeHostPiece t) s).ranges = s.ranges ∧
    (l.foldl (makeHostPiece t) s).walk = s.walk ∧ (l.foldl (makeHostPiece t) s).scanner = s.scanner ∧
    (l.foldl (makeHostPiece t) s).heat = s.heat ∧ (l.foldl (makeHostPiece t) s).streams = s.streams ∧
    (l.foldl (makeHostPiece t) s).accesses = s.accesses ∧ (l.foldl (makeHostPiece t) s).arbiter = s.arbiter ∧
    (l.foldl (makeHostPiece t) s).mover = s.mover ∧ (l.foldl (makeHostPiece t) s).spindle = s.spindle ∧
    (l.foldl (makeHostPiece t) s).sup = s.sup ∧ (l.foldl (makeHostPiece t) s).params = s.params ∧
    (l.foldl (makeHostPiece t) s).pending = s.pending := by
  and_intros <;> (apply foldl_keeps; intros; simp)

@[simp] theorem applySlot_frame (w : Option (Nat × SlotRec)) (s : State) :
    (applySlot w s).link = s.link ∧ (applySlot w s).commands = s.commands ∧ (applySlot w s).routing = s.routing ∧
    (applySlot w s).ranges = s.ranges ∧ (applySlot w s).walk = s.walk ∧ (applySlot w s).scanner = s.scanner ∧
    (applySlot w s).heat = s.heat ∧ (applySlot w s).streams = s.streams ∧ (applySlot w s).accesses = s.accesses ∧
    (applySlot w s).arbiter = s.arbiter ∧ (applySlot w s).mover = s.mover ∧ (applySlot w s).flash = s.flash ∧
    (applySlot w s).disk = s.disk ∧ (applySlot w s).spindle = s.spindle ∧ (applySlot w s).sup = s.sup ∧
    (applySlot w s).params = s.params ∧ (applySlot w s).choice = s.choice ∧ (applySlot w s).pending = s.pending := by
  unfold applySlot; split <;> simp

@[simp] theorem advanceCursor_frame (r : CommandRec) (s : State) :
    (advanceCursor r s).link = s.link ∧ (advanceCursor r s).map = s.map ∧ (advanceCursor r s).ranges = s.ranges ∧
    (advanceCursor r s).walk = s.walk ∧ (advanceCursor r s).scanner = s.scanner ∧
    (advanceCursor r s).heat = s.heat ∧ (advanceCursor r s).streams = s.streams ∧
    (advanceCursor r s).accesses = s.accesses ∧ (advanceCursor r s).arbiter = s.arbiter ∧
    (advanceCursor r s).mover = s.mover ∧ (advanceCursor r s).reclaimer = s.reclaimer ∧
    (advanceCursor r s).flash = s.flash ∧ (advanceCursor r s).disk = s.disk ∧
    (advanceCursor r s).spindle = s.spindle ∧ (advanceCursor r s).sup = s.sup ∧
    (advanceCursor r s).params = s.params ∧ (advanceCursor r s).choice = s.choice ∧
    (advanceCursor r s).pending = s.pending := by
  unfold advanceCursor; dsimp only; split <;> simp

@[simp] theorem applyPlan_frame (r : CommandRec) (pl : Plan) (s : State) :
    (applyPlan r pl s).ranges = s.ranges ∧ (applyPlan r pl s).walk = s.walk ∧
    (applyPlan r pl s).scanner = s.scanner ∧ (applyPlan r pl s).heat = s.heat ∧
    (applyPlan r pl s).streams = s.streams ∧ (applyPlan r pl s).accesses = s.accesses ∧
    (applyPlan r pl s).arbiter = s.arbiter ∧ (applyPlan r pl s).mover = s.mover ∧
    (applyPlan r pl s).spindle = s.spindle ∧ (applyPlan r pl s).sup = s.sup ∧ (applyPlan r pl s).params = s.params ∧
    (applyPlan r pl s).pending = s.pending := by
  simp [applyPlan]

@[simp] theorem makeWaiting_frame (s : State) (e : Nat × (Nat × Nat)) :
    (makeWaiting s e).routing = s.routing ∧ (makeWaiting s e).map = s.map ∧ (makeWaiting s e).ranges = s.ranges ∧
    (makeWaiting s e).walk = s.walk ∧ (makeWaiting s e).scanner = s.scanner ∧ (makeWaiting s e).heat = s.heat ∧
    (makeWaiting s e).streams = s.streams ∧ (makeWaiting s e).accesses = s.accesses ∧
    (makeWaiting s e).arbiter = s.arbiter ∧ (makeWaiting s e).mover = s.mover ∧
    (makeWaiting s e).reclaimer = s.reclaimer ∧ (makeWaiting s e).spindle = s.spindle ∧
    (makeWaiting s e).sup = s.sup ∧ (makeWaiting s e).params = s.params ∧ (makeWaiting s e).pending = s.pending := by
  unfold makeWaiting; split <;> simp

@[simp] theorem setServiceState_frame (k : JobClass) (st : ServiceState) (s : State) :
    (setServiceState k st s).link = s.link ∧ (setServiceState k st s).commands = s.commands ∧
    (setServiceState k st s).routing = s.routing ∧ (setServiceState k st s).map = s.map ∧
    (setServiceState k st s).ranges = s.ranges ∧ (setServiceState k st s).walk = s.walk ∧
    (setServiceState k st s).scanner = s.scanner ∧ (setServiceState k st s).heat = s.heat ∧
    (setServiceState k st s).streams = s.streams ∧ (setServiceState k st s).accesses = s.accesses ∧
    (setServiceState k st s).mover = s.mover ∧ (setServiceState k st s).reclaimer = s.reclaimer ∧
    (setServiceState k st s).flash = s.flash ∧ (setServiceState k st s).disk = s.disk ∧
    (setServiceState k st s).spindle = s.spindle ∧ (setServiceState k st s).sup = s.sup ∧
    (setServiceState k st s).params = s.params ∧ (setServiceState k st s).choice = s.choice ∧
    (setServiceState k st s).pending = s.pending := by
  unfold setServiceState; split <;> simp

@[simp] theorem loadWatchdog_frame (c : CtxId) (s : State) :
    (loadWatchdog c s).link = s.link ∧ (loadWatchdog c s).commands = s.commands ∧
    (loadWatchdog c s).routing = s.routing ∧ (loadWatchdog c s).map = s.map ∧ (loadWatchdog c s).ranges = s.ranges ∧
    (loadWatchdog c s).walk = s.walk ∧ (loadWatchdog c s).scanner = s.scanner ∧ (loadWatchdog c s).heat = s.heat ∧
    (loadWatchdog c s).streams = s.streams ∧ (loadWatchdog c s).accesses = s.accesses ∧
    (loadWatchdog c s).arbiter = s.arbiter ∧ (loadWatchdog c s).reclaimer = s.reclaimer ∧
    (loadWatchdog c s).flash = s.flash ∧ (loadWatchdog c s).disk = s.disk ∧ (loadWatchdog c s).spindle = s.spindle ∧
    (loadWatchdog c s).sup = s.sup ∧ (loadWatchdog c s).params = s.params ∧ (loadWatchdog c s).choice = s.choice ∧
    (loadWatchdog c s).pending = s.pending := by
  unfold loadWatchdog; split <;> simp

@[simp] theorem suspend_frame (k : JobClass) (c : CtxId) (s : State) :
    (suspend k c s).link = s.link ∧ (suspend k c s).commands = s.commands ∧ (suspend k c s).routing = s.routing ∧
    (suspend k c s).map = s.map ∧ (suspend k c s).ranges = s.ranges ∧ (suspend k c s).walk = s.walk ∧
    (suspend k c s).scanner = s.scanner ∧ (suspend k c s).heat = s.heat ∧ (suspend k c s).streams = s.streams ∧
    (suspend k c s).accesses = s.accesses ∧ (suspend k c s).reclaimer = s.reclaimer ∧
    (suspend k c s).flash = s.flash ∧ (suspend k c s).disk = s.disk ∧ (suspend k c s).spindle = s.spindle ∧
    (suspend k c s).sup = s.sup ∧ (suspend k c s).params = s.params ∧ (suspend k c s).choice = s.choice ∧
    (suspend k c s).pending = s.pending := by
  simp [suspend]

@[simp] theorem promotePending_frame (s : State) :
    ((promotePending s).1).link = s.link ∧ ((promotePending s).1).commands = s.commands ∧
    ((promotePending s).1).routing = s.routing ∧ ((promotePending s).1).map = s.map ∧
    ((promotePending s).1).ranges = s.ranges ∧ ((promotePending s).1).walk = s.walk ∧
    ((promotePending s).1).scanner = s.scanner ∧ ((promotePending s).1).heat = s.heat ∧
    ((promotePending s).1).streams = s.streams ∧ ((promotePending s).1).accesses = s.accesses ∧
    ((promotePending s).1).mover = s.mover ∧ ((promotePending s).1).reclaimer = s.reclaimer ∧
    ((promotePending s).1).flash = s.flash ∧ ((promotePending s).1).disk = s.disk ∧
    ((promotePending s).1).spindle = s.spindle ∧ ((promotePending s).1).sup = s.sup ∧
    ((promotePending s).1).params = s.params ∧ ((promotePending s).1).choice = s.choice ∧
    ((promotePending s).1).pending = s.pending := by
  unfold promotePending; split <;> simp

@[simp] theorem resumeSuspended_frame (s : State) :
    ((resumeSuspended s).1).link = s.link ∧ ((resumeSuspended s).1).commands = s.commands ∧
    ((resumeSuspended s).1).routing = s.routing ∧ ((resumeSuspended s).1).map = s.map ∧
    ((resumeSuspended s).1).ranges = s.ranges ∧ ((resumeSuspended s).1).walk = s.walk ∧
    ((resumeSuspended s).1).scanner = s.scanner ∧ ((resumeSuspended s).1).heat = s.heat ∧
    ((resumeSuspended s).1).streams = s.streams ∧ ((resumeSuspended s).1).accesses = s.accesses ∧
    ((resumeSuspended s).1).mover = s.mover ∧ ((resumeSuspended s).1).reclaimer = s.reclaimer ∧
    ((resumeSuspended s).1).flash = s.flash ∧ ((resumeSuspended s).1).disk = s.disk ∧
    ((resumeSuspended s).1).spindle = s.spindle ∧ ((resumeSuspended s).1).sup = s.sup ∧
    ((resumeSuspended s).1).params = s.params ∧ ((resumeSuspended s).1).choice = s.choice ∧
    ((resumeSuspended s).1).pending = s.pending := by
  unfold resumeSuspended; split <;> simp

@[simp] theorem releaseJobSlot_frame (x : Context) (s : State) :
    (releaseJobSlot x s).link = s.link ∧ (releaseJobSlot x s).commands = s.commands ∧
    (releaseJobSlot x s).routing = s.routing ∧ (releaseJobSlot x s).ranges = s.ranges ∧
    (releaseJobSlot x s).walk = s.walk ∧ (releaseJobSlot x s).scanner = s.scanner ∧
    (releaseJobSlot x s).heat = s.heat ∧ (releaseJobSlot x s).streams = s.streams ∧
    (releaseJobSlot x s).accesses = s.accesses ∧ (releaseJobSlot x s).arbiter = s.arbiter ∧
    (releaseJobSlot x s).mover = s.mover ∧ (releaseJobSlot x s).flash = s.flash ∧
    (releaseJobSlot x s).disk = s.disk ∧ (releaseJobSlot x s).spindle = s.spindle ∧
    (releaseJobSlot x s).sup = s.sup ∧ (releaseJobSlot x s).params = s.params ∧
    (releaseJobSlot x s).choice = s.choice ∧ (releaseJobSlot x s).pending = s.pending := by
  unfold releaseJobSlot; split <;> simp

@[simp] theorem recordEnd_frame (x : Context) (e : JobEnd) (s : State) :
    (recordEnd x e s).link = s.link ∧ (recordEnd x e s).commands = s.commands ∧
    (recordEnd x e s).routing = s.routing ∧ (recordEnd x e s).map = s.map ∧ (recordEnd x e s).ranges = s.ranges ∧
    (recordEnd x e s).walk = s.walk ∧ (recordEnd x e s).scanner = s.scanner ∧ (recordEnd x e s).heat = s.heat ∧
    (recordEnd x e s).streams = s.streams ∧ (recordEnd x e s).accesses = s.accesses ∧
    (recordEnd x e s).arbiter = s.arbiter ∧ (recordEnd x e s).reclaimer = s.reclaimer ∧
    (recordEnd x e s).flash = s.flash ∧ (recordEnd x e s).disk = s.disk ∧ (recordEnd x e s).spindle = s.spindle ∧
    (recordEnd x e s).params = s.params ∧ (recordEnd x e s).choice = s.choice ∧
    (recordEnd x e s).pending = s.pending := by
  unfold recordEnd; split <;> simp

@[simp] theorem endServiceOf_frame (k : JobClass) (s : State) :
    (endServiceOf k s).link = s.link ∧ (endServiceOf k s).commands = s.commands ∧
    (endServiceOf k s).routing = s.routing ∧ (endServiceOf k s).map = s.map ∧ (endServiceOf k s).ranges = s.ranges ∧
    (endServiceOf k s).walk = s.walk ∧ (endServiceOf k s).scanner = s.scanner ∧ (endServiceOf k s).heat = s.heat ∧
    (endServiceOf k s).streams = s.streams ∧ (endServiceOf k s).accesses = s.accesses ∧
    (endServiceOf k s).mover = s.mover ∧ (endServiceOf k s).reclaimer = s.reclaimer ∧
    (endServiceOf k s).flash = s.flash ∧ (endServiceOf k s).disk = s.disk ∧ (endServiceOf k s).spindle = s.spindle ∧
    (endServiceOf k s).sup = s.sup ∧ (endServiceOf k s).params = s.params ∧ (endServiceOf k s).choice = s.choice ∧
    (endServiceOf k s).pending = s.pending := by
  unfold endServiceOf; dsimp only; split <;> simp

@[simp] theorem takeJobEnd_frame (k : JobClass) (c : Option AbortCause) (s : State) :
    (takeJobEnd k c s).link = s.link ∧ (takeJobEnd k c s).commands = s.commands ∧
    (takeJobEnd k c s).routing = s.routing ∧ (takeJobEnd k c s).map = s.map ∧ (takeJobEnd k c s).ranges = s.ranges ∧
    (takeJobEnd k c s).walk = s.walk ∧ (takeJobEnd k c s).scanner = s.scanner ∧ (takeJobEnd k c s).heat = s.heat ∧
    (takeJobEnd k c s).streams = s.streams ∧ (takeJobEnd k c s).accesses = s.accesses ∧
    (takeJobEnd k c s).mover = s.mover ∧ (takeJobEnd k c s).reclaimer = s.reclaimer ∧
    (takeJobEnd k c s).flash = s.flash ∧ (takeJobEnd k c s).disk = s.disk ∧ (takeJobEnd k c s).spindle = s.spindle ∧
    (takeJobEnd k c s).params = s.params ∧ (takeJobEnd k c s).choice = s.choice ∧
    (takeJobEnd k c s).pending = s.pending := by
  unfold takeJobEnd; (repeat' split) <;> simp

/-- The posting of a Pin-Fill or Hot-Fill of a chunk touches no slot and nothing of the Reclaimer (R60). -/
@[simp] theorem enqueue_fill_frame (k : JobClass) (c : Nat) (s : State) :
    (enqueue k ⟨.fill, .chunk c⟩ s).map = s.map ∧ (enqueue k ⟨.fill, .chunk c⟩ s).reclaimer = s.reclaimer := by
  simp [enqueue, claimedSlot]

@[simp] theorem post_fill_frame (k : JobClass) (c : Nat) (s : State) :
    (post k ⟨.fill, .chunk c⟩ s).map = s.map ∧ (post k ⟨.fill, .chunk c⟩ s).reclaimer = s.reclaimer := by
  unfold post; (repeat' split) <;> simp

@[simp] theorem stallScanner_frame (e c : Nat) (s : State) :
    (stallScanner e c s).link = s.link ∧ (stallScanner e c s).commands = s.commands ∧
    (stallScanner e c s).routing = s.routing ∧ (stallScanner e c s).map = s.map ∧
    (stallScanner e c s).ranges = s.ranges ∧ (stallScanner e c s).walk = s.walk ∧
    (stallScanner e c s).heat = s.heat ∧ (stallScanner e c s).streams = s.streams ∧
    (stallScanner e c s).accesses = s.accesses ∧ (stallScanner e c s).arbiter = s.arbiter ∧
    (stallScanner e c s).mover = s.mover ∧ (stallScanner e c s).reclaimer = s.reclaimer ∧
    (stallScanner e c s).flash = s.flash ∧ (stallScanner e c s).disk = s.disk ∧
    (stallScanner e c s).spindle = s.spindle ∧ (stallScanner e c s).params = s.params ∧
    (stallScanner e c s).choice = s.choice ∧ (stallScanner e c s).pending = s.pending := by
  unfold stallScanner; dsimp only; split <;> simp

@[simp] theorem scanChunk_frame (s : State) :
    (scanChunk s).link = s.link ∧ (scanChunk s).commands = s.commands ∧ (scanChunk s).routing = s.routing ∧
    (scanChunk s).ranges = s.ranges ∧ (scanChunk s).walk = s.walk ∧ (scanChunk s).heat = s.heat ∧
    (scanChunk s).streams = s.streams ∧ (scanChunk s).accesses = s.accesses ∧ (scanChunk s).mover = s.mover ∧
    (scanChunk s).flash = s.flash ∧ (scanChunk s).disk = s.disk ∧ (scanChunk s).spindle = s.spindle ∧
    (scanChunk s).params = s.params ∧ (scanChunk s).choice = s.choice ∧ (scanChunk s).pending = s.pending := by
  unfold scanChunk; (repeat' split) <;> simp

@[simp] theorem scanChunk_slots (s : State) : (scanChunk s).map = s.map ∧ (scanChunk s).reclaimer = s.reclaimer := by
  unfold scanChunk; (repeat' split) <;> simp

@[simp] theorem resumeScan_frame (s : State) :
    (resumeScan s).link = s.link ∧ (resumeScan s).commands = s.commands ∧ (resumeScan s).routing = s.routing ∧
    (resumeScan s).map = s.map ∧ (resumeScan s).ranges = s.ranges ∧ (resumeScan s).walk = s.walk ∧
    (resumeScan s).heat = s.heat ∧ (resumeScan s).streams = s.streams ∧ (resumeScan s).accesses = s.accesses ∧
    (resumeScan s).mover = s.mover ∧ (resumeScan s).reclaimer = s.reclaimer ∧ (resumeScan s).flash = s.flash ∧
    (resumeScan s).disk = s.disk ∧ (resumeScan s).spindle = s.spindle ∧ (resumeScan s).params = s.params ∧
    (resumeScan s).choice = s.choice ∧ (resumeScan s).pending = s.pending := by
  unfold resumeScan; split <;> simp

/-- With no stall in force there is nothing to look at again. -/
theorem resumeScan_quiet {s : State} (h : s.stalls = false) : resumeScan s = s := by simp [resumeScan, h]

@[simp] theorem endJob_frame (c : CtxId) (e : JobEnd) (s : State) :
    ((endJob c e s).1).link = s.link ∧ ((endJob c e s).1).commands = s.commands ∧
    ((endJob c e s).1).routing = s.routing ∧ ((endJob c e s).1).ranges = s.ranges ∧
    ((endJob c e s).1).walk = s.walk ∧ ((endJob c e s).1).heat = s.heat ∧
    ((endJob c e s).1).streams = s.streams ∧ ((endJob c e s).1).accesses = s.accesses ∧
    ((endJob c e s).1).flash = s.flash ∧ ((endJob c e s).1).disk = s.disk ∧ ((endJob c e s).1).spindle = s.spindle ∧
    ((endJob c e s).1).params = s.params ∧ ((endJob c e s).1).choice = s.choice ∧
    ((endJob c e s).1).pending = s.pending := by
  unfold endJob; dsimp only; (repeat' split) <;> simp

/-- The end of a job posts nothing and takes nothing from a queue: the one chunk examined within another event is in the
Pin-Fill's grant. -/
@[simp] theorem endJob_queues (c : CtxId) (e : JobEnd) (s : State) :
    ((endJob c e s).1).arbiter.queues = s.arbiter.queues := by
  have hs (k : JobClass) (st : ServiceState) (t : State) : (setServiceState k st t).arbiter.queues = t.arbiter.queues := by
    unfold setServiceState; split <;> rfl
  have hr (t : State) : ((resumeSuspended t).1).arbiter.queues = t.arbiter.queues := by
    unfold resumeSuspended; split <;> first | rfl | exact hs _ _ _
  have hp (t : State) : ((promotePending t).1).arbiter.queues = t.arbiter.queues := by
    unfold promotePending; split <;> first | rfl | exact hs _ _ _
  have hj (k : JobClass) (a : Option AbortCause) (t : State) : (takeJobEnd k a t).arbiter.queues = t.arbiter.queues := by
    unfold takeJobEnd endServiceOf; dsimp only; (repeat' split) <;> rfl
  unfold endJob; dsimp only; (repeat' split) <;> simp [hr, hp, hj]

@[simp] theorem judgeMediaLoss_frame (x : Context) (q : Piece) (st : PieceStatus) (s : State) :
    (judgeMediaLoss x q st s).link = s.link ∧ (judgeMediaLoss x q st s).commands = s.commands ∧
    (judgeMediaLoss x q st s).routing = s.routing ∧ (judgeMediaLoss x q st s).map = s.map ∧
    (judgeMediaLoss x q st s).ranges = s.ranges ∧ (judgeMediaLoss x q st s).walk = s.walk ∧
    (judgeMediaLoss x q st s).scanner = s.scanner ∧ (judgeMediaLoss x q st s).heat = s.heat ∧
    (judgeMediaLoss x q st s).streams = s.streams ∧ (judgeMediaLoss x q st s).accesses = s.accesses ∧
    (judgeMediaLoss x q st s).arbiter = s.arbiter ∧ (judgeMediaLoss x q st s).mover = s.mover ∧
    (judgeMediaLoss x q st s).reclaimer = s.reclaimer ∧ (judgeMediaLoss x q st s).flash = s.flash ∧
    (judgeMediaLoss x q st s).disk = s.disk ∧ (judgeMediaLoss x q st s).spindle = s.spindle ∧
    (judgeMediaLoss x q st s).params = s.params ∧ (judgeMediaLoss x q st s).choice = s.choice ∧
    (judgeMediaLoss x q st s).pending = s.pending := by
  unfold judgeMediaLoss; (repeat' split) <;> simp

@[simp] theorem failAtPiece_frame (c : CtxId) (p : Port) (q : Piece) (st : PieceStatus) (s : State) :
    ((failAtPiece c p q st s).1).link = s.link ∧ ((failAtPiece c p q st s).1).commands = s.commands ∧
    ((failAtPiece c p q st s).1).routing = s.routing ∧ ((failAtPiece c p q st s).1).ranges = s.ranges ∧
    ((failAtPiece c p q st s).1).walk = s.walk ∧ ((failAtPiece c p q st s).1).heat = s.heat ∧ ((failAtPiece c p q st s).1).streams = s.streams ∧
    ((failAtPiece c p q st s).1).accesses = s.accesses ∧ ((failAtPiece c p q st s).1).flash = s.flash ∧
    ((failAtPiece c p q st s).1).disk = s.disk ∧ ((failAtPiece c p q st s).1).spindle = s.spindle ∧
    ((failAtPiece c p q st s).1).params = s.params ∧ ((failAtPiece c p q st s).1).choice = s.choice ∧
    ((failAtPiece c p q st s).1).pending = s.pending := by
  unfold failAtPiece; dsimp only; split <;> simp

@[simp] theorem applyPiece_frame (x : Context) (q : Piece) (s : State) :
    (applyPiece x q s).link = s.link ∧ (applyPiece x q s).commands = s.commands ∧
    (applyPiece x q s).routing = s.routing ∧ (applyPiece x q s).ranges = s.ranges ∧
    (applyPiece x q s).walk = s.walk ∧ (applyPiece x q s).scanner = s.scanner ∧ (applyPiece x q s).heat = s.heat ∧
    (applyPiece x q s).streams = s.streams ∧ (applyPiece x q s).accesses = s.accesses ∧
    (applyPiece x q s).arbiter = s.arbiter ∧ (applyPiece x q s).mover = s.mover ∧
    (applyPiece x q s).flash = s.flash ∧ (applyPiece x q s).disk = s.disk ∧ (applyPiece x q s).spindle = s.spindle ∧
    (applyPiece x q s).sup = s.sup ∧ (applyPiece x q s).params = s.params ∧ (applyPiece x q s).choice = s.choice ∧
    (applyPiece x q s).pending = s.pending := by
  unfold applyPiece; dsimp only; split <;> simp

@[simp] theorem leaveFlushPhase_frame (x : Context) (s : State) :
    (leaveFlushPhase x s).link = s.link ∧ (leaveFlushPhase x s).commands = s.commands ∧
    (leaveFlushPhase x s).routing = s.routing ∧ (leaveFlushPhase x s).ranges = s.ranges ∧
    (leaveFlushPhase x s).walk = s.walk ∧ (leaveFlushPhase x s).scanner = s.scanner ∧
    (leaveFlushPhase x s).heat = s.heat ∧ (leaveFlushPhase x s).streams = s.streams ∧
    (leaveFlushPhase x s).accesses = s.accesses ∧ (leaveFlushPhase x s).arbiter = s.arbiter ∧
    (leaveFlushPhase x s).mover = s.mover ∧ (leaveFlushPhase x s).flash = s.flash ∧
    (leaveFlushPhase x s).disk = s.disk ∧ (leaveFlushPhase x s).spindle = s.spindle ∧
    (leaveFlushPhase x s).sup = s.sup ∧ (leaveFlushPhase x s).params = s.params ∧
    (leaveFlushPhase x s).choice = s.choice ∧ (leaveFlushPhase x s).pending = s.pending := by
  unfold leaveFlushPhase; split <;> simp

@[simp] theorem evictCheck_frame (c : CtxId) (x : Context) (s : State) :
    ((evictCheck c x s).1).link = s.link ∧ ((evictCheck c x s).1).commands = s.commands ∧
    ((evictCheck c x s).1).routing = s.routing ∧ ((evictCheck c x s).1).ranges = s.ranges ∧
    ((evictCheck c x s).1).walk = s.walk ∧ ((evictCheck c x s).1).heat = s.heat ∧ ((evictCheck c x s).1).streams = s.streams ∧
    ((evictCheck c x s).1).accesses = s.accesses ∧ ((evictCheck c x s).1).flash = s.flash ∧
    ((evictCheck c x s).1).disk = s.disk ∧ ((evictCheck c x s).1).spindle = s.spindle ∧
    ((evictCheck c x s).1).params = s.params ∧ ((evictCheck c x s).1).choice = s.choice ∧
    ((evictCheck c x s).1).pending = s.pending := by
  unfold evictCheck; dsimp only; split <;> simp

@[simp] theorem issuePiece_frame (c : CtxId) (q : PieceSpec) (x y : Context) (s : State) :
    ((issuePiece c q x y s).1).link = s.link ∧ ((issuePiece c q x y s).1).commands = s.commands ∧
    ((issuePiece c q x y s).1).routing = s.routing ∧ ((issuePiece c q x y s).1).ranges = s.ranges ∧
    ((issuePiece c q x y s).1).walk = s.walk ∧ ((issuePiece c q x y s).1).heat = s.heat ∧ ((issuePiece c q x y s).1).streams = s.streams ∧
    ((issuePiece c q x y s).1).accesses = s.accesses ∧ ((issuePiece c q x y s).1).spindle = s.spindle ∧
    ((issuePiece c q x y s).1).params = s.params ∧ ((issuePiece c q x y s).1).pending = s.pending := by
  unfold issuePiece; dsimp only; (repeat' split) <;> simp

@[simp] theorem advance_frame (c : CtxId) (s : State) :
    ((advance c s).1).link = s.link ∧ ((advance c s).1).commands = s.commands ∧
    ((advance c s).1).routing = s.routing ∧ ((advance c s).1).ranges = s.ranges ∧ ((advance c s).1).walk = s.walk ∧
    ((advance c s).1).heat = s.heat ∧
    ((advance c s).1).streams = s.streams ∧ ((advance c s).1).accesses = s.accesses ∧
    ((advance c s).1).spindle = s.spindle ∧ ((advance c s).1).params = s.params ∧
    ((advance c s).1).pending = s.pending := by
  unfold advance; (repeat' split) <;> simp

@[simp] theorem settleSuspending_frame (c : CtxId) (x : Context) (s : State) :
    ((settleSuspending c x s).1).link = s.link ∧ ((settleSuspending c x s).1).commands = s.commands ∧
    ((settleSuspending c x s).1).routing = s.routing ∧ ((settleSuspending c x s).1).ranges = s.ranges ∧
    ((settleSuspending c x s).1).walk = s.walk ∧ ((settleSuspending c x s).1).heat = s.heat ∧ ((settleSuspending c x s).1).streams = s.streams ∧
    ((settleSuspending c x s).1).accesses = s.accesses ∧ ((settleSuspending c x s).1).flash = s.flash ∧
    ((settleSuspending c x s).1).disk = s.disk ∧ ((settleSuspending c x s).1).spindle = s.spindle ∧
    ((settleSuspending c x s).1).params = s.params ∧ ((settleSuspending c x s).1).choice = s.choice ∧
    ((settleSuspending c x s).1).pending = s.pending := by
  unfold settleSuspending; (repeat' split) <;> simp

@[simp] theorem passPiece_frame (c : CtxId) (q : Piece) (s : State) :
    ((passPiece c q s).1).link = s.link ∧ ((passPiece c q s).1).commands = s.commands ∧
    ((passPiece c q s).1).routing = s.routing ∧ ((passPiece c q s).1).ranges = s.ranges ∧
    ((passPiece c q s).1).walk = s.walk ∧ ((passPiece c q s).1).heat = s.heat ∧ ((passPiece c q s).1).streams = s.streams ∧
    ((passPiece c q s).1).accesses = s.accesses ∧ ((passPiece c q s).1).spindle = s.spindle ∧
    ((passPiece c q s).1).params = s.params ∧ ((passPiece c q s).1).pending = s.pending := by
  unfold passPiece; dsimp only; (repeat' split) <;> simp

@[simp] theorem moverTake_frame (c : CtxId) (p : Port) (q : Piece) (st : PieceStatus) (s : State) :
    ((moverTake c p q st s).1).link = s.link ∧ ((moverTake c p q st s).1).commands = s.commands ∧
    ((moverTake c p q st s).1).routing = s.routing ∧ ((moverTake c p q st s).1).ranges = s.ranges ∧
    ((moverTake c p q st s).1).walk = s.walk ∧ ((moverTake c p q st s).1).heat = s.heat ∧ ((moverTake c p q st s).1).streams = s.streams ∧
    ((moverTake c p q st s).1).accesses = s.accesses ∧ ((moverTake c p q st s).1).spindle = s.spindle ∧
    ((moverTake c p q st s).1).params = s.params ∧ ((moverTake c p q st s).1).pending = s.pending := by
  unfold moverTake; split <;> simp

@[simp] theorem takeFillSlot_frame (c : CtxId) (x : Context) (i : Nat) (r : SlotRec) (s : State) :
    ((takeFillSlot c x i r s).1).link = s.link ∧ ((takeFillSlot c x i r s).1).commands = s.commands ∧
    ((takeFillSlot c x i r s).1).routing = s.routing ∧ ((takeFillSlot c x i r s).1).ranges = s.ranges ∧
    ((takeFillSlot c x i r s).1).walk = s.walk ∧ ((takeFillSlot c x i r s).1).heat = s.heat ∧ ((takeFillSlot c x i r s).1).streams = s.streams ∧
    ((takeFillSlot c x i r s).1).accesses = s.accesses ∧ ((takeFillSlot c x i r s).1).spindle = s.spindle ∧
    ((takeFillSlot c x i r s).1).params = s.params ∧ ((takeFillSlot c x i r s).1).pending = s.pending := by
  simp [takeFillSlot]

@[simp] theorem startFill_frame (c : CtxId) (x : Context) (s : State) :
    ((startFill c x s).1).link = s.link ∧ ((startFill c x s).1).commands = s.commands ∧
    ((startFill c x s).1).routing = s.routing ∧ ((startFill c x s).1).ranges = s.ranges ∧
    ((startFill c x s).1).walk = s.walk ∧ ((startFill c x s).1).heat = s.heat ∧ ((startFill c x s).1).streams = s.streams ∧
    ((startFill c x s).1).accesses = s.accesses ∧ ((startFill c x s).1).spindle = s.spindle ∧
    ((startFill c x s).1).params = s.params ∧ ((startFill c x s).1).pending = s.pending := by
  unfold startFill; dsimp only; (repeat' split) <;> simp

@[simp] theorem startFlush_frame (c : CtxId) (x : Context) (i : Nat) (s : State) :
    ((startFlush c x i s).1).link = s.link ∧ ((startFlush c x i s).1).commands = s.commands ∧
    ((startFlush c x i s).1).routing = s.routing ∧ ((startFlush c x i s).1).ranges = s.ranges ∧
    ((startFlush c x i s).1).walk = s.walk ∧ ((startFlush c x i s).1).heat = s.heat ∧ ((startFlush c x i s).1).streams = s.streams ∧
    ((startFlush c x i s).1).accesses = s.accesses ∧ ((startFlush c x i s).1).spindle = s.spindle ∧
    ((startFlush c x i s).1).params = s.params ∧ ((startFlush c x i s).1).pending = s.pending := by
  unfold startFlush; dsimp only; (repeat' split) <;> simp

@[simp] theorem startJob_frame (c : CtxId) (s : State) :
    ((startJob c s).1).link = s.link ∧ ((startJob c s).1).commands = s.commands ∧
    ((startJob c s).1).routing = s.routing ∧ ((startJob c s).1).ranges = s.ranges ∧
    ((startJob c s).1).walk = s.walk ∧ ((startJob c s).1).heat = s.heat ∧
    ((startJob c s).1).streams = s.streams ∧ ((startJob c s).1).accesses = s.accesses ∧
    ((startJob c s).1).spindle = s.spindle ∧ ((startJob c s).1).params = s.params ∧
    ((startJob c s).1).pending = s.pending := by
  unfold startJob; (repeat' split) <;> simp

@[simp] theorem follow_frame (f : Follow) (s : State) :
    ((follow f s).1).link = s.link ∧ ((follow f s).1).commands = s.commands ∧ ((follow f s).1).routing = s.routing ∧
    ((follow f s).1).ranges = s.ranges ∧ ((follow f s).1).walk = s.walk ∧ ((follow f s).1).heat = s.heat ∧ ((follow f s).1).streams = s.streams ∧ ((follow f s).1).accesses = s.accesses ∧
    ((follow f s).1).spindle = s.spindle ∧ ((follow f s).1).params = s.params ∧ ((follow f s).1).pending = s.pending := by
  unfold follow; split <;> simp

@[simp] theorem runMover_frame (n : Nat) (p : State × Option Follow) :
    (runMover n p).link = p.1.link ∧ (runMover n p).commands = p.1.commands ∧ (runMover n p).routing = p.1.routing ∧
    (runMover n p).ranges = p.1.ranges ∧ (runMover n p).walk = p.1.walk ∧ (runMover n p).heat = p.1.heat ∧ (runMover n p).streams = p.1.streams ∧ (runMover n p).accesses = p.1.accesses ∧
    (runMover n p).spindle = p.1.spindle ∧ (runMover n p).params = p.1.params ∧ (runMover n p).pending = p.1.pending := by
  induction n generalizing p with
  | zero => simp [runMover]
  | succ n ih =>
    obtain ⟨u, f⟩ := p
    cases f with
    | none => simp [runMover]
    | some f => simp [runMover, ih]

@[simp] theorem leaveQueue_frame (k : JobClass) (rest : List Job) (s : State) :
    (leaveQueue k rest s).link = s.link ∧ (leaveQueue k rest s).commands = s.commands ∧
    (leaveQueue k rest s).routing = s.routing ∧ (leaveQueue k rest s).map = s.map ∧
    (leaveQueue k rest s).ranges = s.ranges ∧ (leaveQueue k rest s).walk = s.walk ∧
    (leaveQueue k rest s).heat = s.heat ∧ (leaveQueue k rest s).streams = s.streams ∧
    (leaveQueue k rest s).accesses = s.accesses ∧ (leaveQueue k rest s).mover = s.mover ∧
    (leaveQueue k rest s).flash = s.flash ∧ (leaveQueue k rest s).disk = s.disk ∧
    (leaveQueue k rest s).spindle = s.spindle ∧ (leaveQueue k rest s).params = s.params ∧
    (leaveQueue k rest s).choice = s.choice ∧ (leaveQueue k rest s).pending = s.pending := by
  unfold leaveQueue; dsimp only; (repeat' split) <;> simp

@[simp] theorem askToSuspend_frame (k : JobClass) (c : CtxId) (s : State) :
    ((askToSuspend k c s).1).link = s.link ∧ ((askToSuspend k c s).1).commands = s.commands ∧
    ((askToSuspend k c s).1).routing = s.routing ∧ ((askToSuspend k c s).1).map = s.map ∧
    ((askToSuspend k c s).1).ranges = s.ranges ∧ ((askToSuspend k c s).1).walk = s.walk ∧
    ((askToSuspend k c s).1).scanner = s.scanner ∧ ((askToSuspend k c s).1).heat = s.heat ∧
    ((askToSuspend k c s).1).streams = s.streams ∧ ((askToSuspend k c s).1).accesses = s.accesses ∧
    ((askToSuspend k c s).1).reclaimer = s.reclaimer ∧ ((askToSuspend k c s).1).flash = s.flash ∧
    ((askToSuspend k c s).1).disk = s.disk ∧ ((askToSuspend k c s).1).spindle = s.spindle ∧
    ((askToSuspend k c s).1).sup = s.sup ∧ ((askToSuspend k c s).1).params = s.params ∧
    ((askToSuspend k c s).1).choice = s.choice ∧ ((askToSuspend k c s).1).pending = s.pending := by
  unfold askToSuspend; (repeat' split) <;> simp

@[simp] theorem grant_frame (k : JobClass) (s : State) :
    ((grant k s).1).link = s.link ∧ ((grant k s).1).commands = s.commands ∧ ((grant k s).1).routing = s.routing ∧
    ((grant k s).1).map = s.map ∧ ((grant k s).1).ranges = s.ranges ∧ ((grant k s).1).walk = s.walk ∧
    ((grant k s).1).heat = s.heat ∧ ((grant k s).1).streams = s.streams ∧ ((grant k s).1).accesses = s.accesses ∧
    ((grant k s).1).flash = s.flash ∧ ((grant k s).1).params = s.params ∧ ((grant k s).1).choice = s.choice ∧
    ((grant k s).1).pending = s.pending := by
  unfold grant; dsimp only; (repeat' split) <;> simp

@[simp] theorem deliver_frame (p : Port) (b : List Piece) (x : Piece) (st : PieceStatus) (s : State) :
    (deliver p b x st s).routing = s.routing ∧ (deliver p b x st s).ranges = s.ranges ∧
    (deliver p b x st s).walk = s.walk ∧ (deliver p b x st s).heat = s.heat ∧ (deliver p b x st s).streams = s.streams ∧
    (deliver p b x st s).accesses = s.accesses ∧ (deliver p b x st s).spindle = s.spindle ∧
    (deliver p b x st s).params = s.params ∧ (deliver p b x st s).pending = s.pending := by
  unfold deliver; split <;> simp

@[simp] theorem modifyPiece_frame (p : Port) (id : Nat) (f : Piece → Piece) (s : State) :
    (modifyPiece p id f s).link = s.link ∧ (modifyPiece p id f s).commands = s.commands ∧
    (modifyPiece p id f s).routing = s.routing ∧ (modifyPiece p id f s).map = s.map ∧
    (modifyPiece p id f s).ranges = s.ranges ∧ (modifyPiece p id f s).walk = s.walk ∧
    (modifyPiece p id f s).scanner = s.scanner ∧ (modifyPiece p id f s).heat = s.heat ∧
    (modifyPiece p id f s).streams = s.streams ∧ (modifyPiece p id f s).accesses = s.accesses ∧
    (modifyPiece p id f s).arbiter = s.arbiter ∧ (modifyPiece p id f s).mover = s.mover ∧
    (modifyPiece p id f s).reclaimer = s.reclaimer ∧ (modifyPiece p id f s).spindle = s.spindle ∧
    (modifyPiece p id f s).sup = s.sup ∧ (modifyPiece p id f s).params = s.params ∧
    (modifyPiece p id f s).choice = s.choice ∧ (modifyPiece p id f s).pending = s.pending := by
  simp [modifyPiece]

@[simp] theorem setTimeouts_frame (p : Port) (n : Nat) (s : State) :
    (setTimeouts p n s).link = s.link ∧ (setTimeouts p n s).commands = s.commands ∧
    (setTimeouts p n s).routing = s.routing ∧ (setTimeouts p n s).map = s.map ∧
    (setTimeouts p n s).ranges = s.ranges ∧ (setTimeouts p n s).walk = s.walk ∧
    (setTimeouts p n s).scanner = s.scanner ∧ (setTimeouts p n s).heat = s.heat ∧
    (setTimeouts p n s).streams = s.streams ∧ (setTimeouts p n s).accesses = s.accesses ∧
    (setTimeouts p n s).arbiter = s.arbiter ∧ (setTimeouts p n s).mover = s.mover ∧
    (setTimeouts p n s).reclaimer = s.reclaimer ∧ (setTimeouts p n s).spindle = s.spindle ∧
    (setTimeouts p n s).sup = s.sup ∧ (setTimeouts p n s).params = s.params ∧
    (setTimeouts p n s).choice = s.choice ∧ (setTimeouts p n s).pending = s.pending := by
  simp [setTimeouts]

@[simp] theorem withhold_frame (p : Port) (id : Nat) (s : State) :
    (withhold p id s).link = s.link ∧ (withhold p id s).commands = s.commands ∧
    (withhold p id s).routing = s.routing ∧ (withhold p id s).map = s.map ∧ (withhold p id s).ranges = s.ranges ∧
    (withhold p id s).walk = s.walk ∧ (withhold p id s).scanner = s.scanner ∧ (withhold p id s).heat = s.heat ∧
    (withhold p id s).streams = s.streams ∧ (withhold p id s).accesses = s.accesses ∧
    (withhold p id s).arbiter = s.arbiter ∧ (withhold p id s).mover = s.mover ∧
    (withhold p id s).reclaimer = s.reclaimer ∧ (withhold p id s).spindle = s.spindle ∧
    (withhold p id s).sup = s.sup ∧ (withhold p id s).params = s.params ∧ (withhold p id s).choice = s.choice ∧
    (withhold p id s).pending = s.pending := by
  simp [withhold]

@[simp] theorem completePiece_frame (p : Port) (id : Nat) (st : PieceStatus) (s : State) :
    (completePiece p id st s).routing = s.routing ∧ (completePiece p id st s).ranges = s.ranges ∧
    (completePiece p id st s).walk = s.walk ∧ (completePiece p id st s).heat = s.heat ∧ (completePiece p id st s).streams = s.streams ∧
    (completePiece p id st s).accesses = s.accesses ∧ (completePiece p id st s).spindle = s.spindle ∧
    (completePiece p id st s).params = s.params ∧ (completePiece p id st s).pending = s.pending := by
  unfold completePiece; split <;> simp

@[simp] theorem forcePiece_frame (p : Port) (s : State) (id : Nat) :
    (forcePiece p s id).routing = s.routing ∧ (forcePiece p s id).ranges = s.ranges ∧
    (forcePiece p s id).walk = s.walk ∧ (forcePiece p s id).heat = s.heat ∧ (forcePiece p s id).streams = s.streams ∧
    (forcePiece p s id).accesses = s.accesses ∧ (forcePiece p s id).spindle = s.spindle ∧
    (forcePiece p s id).params = s.params ∧ (forcePiece p s id).pending = s.pending := by
  unfold forcePiece; split
  · split <;> simp
  · simp

@[simp] theorem forceWhere_frame (p : Port) (f : Piece → Bool) (s : State) :
    (forceWhere p f s).routing = s.routing ∧ (forceWhere p f s).ranges = s.ranges ∧
    (forceWhere p f s).walk = s.walk ∧ (forceWhere p f s).heat = s.heat ∧
    (forceWhere p f s).streams = s.streams ∧ (forceWhere p f s).accesses = s.accesses ∧
    (forceWhere p f s).spindle = s.spindle ∧ (forceWhere p f s).params = s.params ∧
    (forceWhere p f s).pending = s.pending := by
  unfold forceWhere; and_intros <;> (apply foldl_keeps; intros; simp)

@[simp] theorem setMode_frame (m : Mode) (s : State) :
    (setMode m s).link = s.link ∧ (setMode m s).commands = s.commands ∧ (setMode m s).routing = s.routing ∧
    (setMode m s).map = s.map ∧ (setMode m s).ranges = s.ranges ∧ (setMode m s).walk = s.walk ∧
    (setMode m s).scanner = s.scanner ∧ (setMode m s).heat = s.heat ∧ (setMode m s).streams = s.streams ∧
    (setMode m s).accesses = s.accesses ∧ (setMode m s).arbiter = s.arbiter ∧ (setMode m s).mover = s.mover ∧
    (setMode m s).reclaimer = s.reclaimer ∧ (setMode m s).flash = s.flash ∧ (setMode m s).disk = s.disk ∧
    (setMode m s).spindle = s.spindle ∧ (setMode m s).params = s.params ∧ (setMode m s).choice = s.choice ∧
    (setMode m s).pending = s.pending := by
  and_intros <;> rfl

@[simp] theorem enterOnline_frame (s : State) :
    (enterOnline s).link = s.link ∧ (enterOnline s).commands = s.commands ∧ (enterOnline s).routing = s.routing ∧
    (enterOnline s).map = s.map ∧ (enterOnline s).ranges = s.ranges ∧ (enterOnline s).walk = s.walk ∧
    (enterOnline s).heat = s.heat ∧ (enterOnline s).streams = s.streams ∧ (enterOnline s).accesses = s.accesses ∧
    (enterOnline s).arbiter = s.arbiter ∧ (enterOnline s).mover = s.mover ∧
    (enterOnline s).reclaimer = s.reclaimer ∧ (enterOnline s).flash = s.flash ∧ (enterOnline s).disk = s.disk ∧
    (enterOnline s).spindle = s.spindle ∧ (enterOnline s).params = s.params ∧ (enterOnline s).choice = s.choice ∧
    (enterOnline s).pending = s.pending := by
  simp [enterOnline]

@[simp] theorem enterFlashLost_frame (s : State) :
    (enterFlashLost s).link = s.link ∧ (enterFlashLost s).commands = s.commands ∧
    (enterFlashLost s).routing = s.routing ∧ (enterFlashLost s).map = s.map ∧ (enterFlashLost s).ranges = s.ranges ∧
    (enterFlashLost s).walk = s.walk ∧ (enterFlashLost s).heat = s.heat ∧ (enterFlashLost s).streams = s.streams ∧
    (enterFlashLost s).accesses = s.accesses ∧ (enterFlashLost s).arbiter = s.arbiter ∧
    (enterFlashLost s).mover = s.mover ∧ (enterFlashLost s).reclaimer = s.reclaimer ∧
    (enterFlashLost s).flash = s.flash ∧ (enterFlashLost s).disk = s.disk ∧ (enterFlashLost s).spindle = s.spindle ∧
    (enterFlashLost s).params = s.params ∧ (enterFlashLost s).choice = s.choice ∧
    (enterFlashLost s).pending = s.pending := by
  simp [enterFlashLost]

@[simp] theorem noteStopped_frame (ph : SpinDownPhase) (s : State) :
    (noteStopped ph s).commands = s.commands ∧ (noteStopped ph s).routing = s.routing ∧
    (noteStopped ph s).map = s.map ∧ (noteStopped ph s).ranges = s.ranges ∧ (noteStopped ph s).walk = s.walk ∧
    (noteStopped ph s).scanner = s.scanner ∧ (noteStopped ph s).heat = s.heat ∧
    (noteStopped ph s).streams = s.streams ∧ (noteStopped ph s).accesses = s.accesses ∧
    (noteStopped ph s).arbiter = s.arbiter ∧ (noteStopped ph s).mover = s.mover ∧
    (noteStopped ph s).reclaimer = s.reclaimer ∧ (noteStopped ph s).flash = s.flash ∧
    (noteStopped ph s).disk = s.disk ∧ (noteStopped ph s).sup = s.sup ∧ (noteStopped ph s).params = s.params ∧
    (noteStopped ph s).choice = s.choice ∧ (noteStopped ph s).pending = s.pending := by
  unfold noteStopped; dsimp only; split <;> simp

@[simp] theorem markStartFailed_frame (s : State) :
    (markStartFailed s).link = s.link ∧ (markStartFailed s).commands = s.commands ∧
    (markStartFailed s).routing = s.routing ∧ (markStartFailed s).map = s.map ∧
    (markStartFailed s).ranges = s.ranges ∧ (markStartFailed s).walk = s.walk ∧
    (markStartFailed s).scanner = s.scanner ∧ (markStartFailed s).heat = s.heat ∧
    (markStartFailed s).streams = s.streams ∧ (markStartFailed s).accesses = s.accesses ∧
    (markStartFailed s).arbiter = s.arbiter ∧ (markStartFailed s).mover = s.mover ∧
    (markStartFailed s).reclaimer = s.reclaimer ∧ (markStartFailed s).flash = s.flash ∧
    (markStartFailed s).disk = s.disk ∧ (markStartFailed s).params = s.params ∧
    (markStartFailed s).choice = s.choice ∧ (markStartFailed s).pending = s.pending := by
  and_intros <;> rfl

@[simp] theorem failStart_frame (s : State) :
    (failStart s).routing = s.routing ∧ (failStart s).ranges = s.ranges ∧ (failStart s).walk = s.walk ∧
    (failStart s).heat = s.heat ∧ (failStart s).streams = s.streams ∧
    (failStart s).accesses = s.accesses ∧ (failStart s).params = s.params ∧ (failStart s).pending = s.pending := by
  simp [failStart]

@[simp] theorem finishStop_frame (s : State) :
    (finishStop s).commands = s.commands ∧ (finishStop s).routing = s.routing ∧ (finishStop s).map = s.map ∧
    (finishStop s).ranges = s.ranges ∧ (finishStop s).walk = s.walk ∧ (finishStop s).scanner = s.scanner ∧
    (finishStop s).heat = s.heat ∧ (finishStop s).streams = s.streams ∧ (finishStop s).accesses = s.accesses ∧
    (finishStop s).arbiter = s.arbiter ∧ (finishStop s).mover = s.mover ∧ (finishStop s).reclaimer = s.reclaimer ∧
    (finishStop s).flash = s.flash ∧ (finishStop s).sup = s.sup ∧ (finishStop s).params = s.params ∧
    (finishStop s).choice = s.choice ∧ (finishStop s).pending = s.pending := by
  unfold finishStop; dsimp only; split <;> simp

@[simp] theorem takeCaughtAborted_frame (s : State) (id : Nat) :
    (takeCaughtAborted s id).routing = s.routing ∧ (takeCaughtAborted s id).ranges = s.ranges ∧
    (takeCaughtAborted s id).walk = s.walk ∧ (takeCaughtAborted s id).heat = s.heat ∧ (takeCaughtAborted s id).streams = s.streams ∧
    (takeCaughtAborted s id).accesses = s.accesses ∧ (takeCaughtAborted s id).spindle = s.spindle ∧
    (takeCaughtAborted s id).params = s.params ∧ (takeCaughtAborted s id).pending = s.pending := by
  unfold takeCaughtAborted; (repeat' split) <;> simp

@[simp] theorem reloadWatchdog_frame (s : State) (c : CtxId) :
    (reloadWatchdog s c).link = s.link ∧ (reloadWatchdog s c).commands = s.commands ∧
    (reloadWatchdog s c).routing = s.routing ∧ (reloadWatchdog s c).map = s.map ∧
    (reloadWatchdog s c).ranges = s.ranges ∧ (reloadWatchdog s c).walk = s.walk ∧
    (reloadWatchdog s c).scanner = s.scanner ∧ (reloadWatchdog s c).heat = s.heat ∧
    (reloadWatchdog s c).streams = s.streams ∧ (reloadWatchdog s c).accesses = s.accesses ∧
    (reloadWatchdog s c).arbiter = s.arbiter ∧ (reloadWatchdog s c).reclaimer = s.reclaimer ∧
    (reloadWatchdog s c).flash = s.flash ∧ (reloadWatchdog s c).disk = s.disk ∧
    (reloadWatchdog s c).spindle = s.spindle ∧ (reloadWatchdog s c).sup = s.sup ∧
    (reloadWatchdog s c).params = s.params ∧ (reloadWatchdog s c).choice = s.choice ∧
    (reloadWatchdog s c).pending = s.pending := by
  unfold reloadWatchdog; split <;> simp

@[simp] theorem enterRunning_frame (s : State) :
    (enterRunning s).link = s.link ∧ (enterRunning s).commands = s.commands ∧ (enterRunning s).routing = s.routing ∧
    (enterRunning s).map = s.map ∧ (enterRunning s).ranges = s.ranges ∧ (enterRunning s).walk = s.walk ∧
    (enterRunning s).scanner = s.scanner ∧ (enterRunning s).heat = s.heat ∧ (enterRunning s).streams = s.streams ∧
    (enterRunning s).accesses = s.accesses ∧ (enterRunning s).arbiter = s.arbiter ∧
    (enterRunning s).reclaimer = s.reclaimer ∧ (enterRunning s).sup = s.sup ∧ (enterRunning s).params = s.params ∧
    (enterRunning s).choice = s.choice ∧ (enterRunning s).pending = s.pending := by
  simp [enterRunning]

@[simp] theorem foldl_takeCaughtAborted_frame (l : List Nat) (s : State) :
    (l.foldl takeCaughtAborted s).routing = s.routing ∧ (l.foldl takeCaughtAborted s).ranges = s.ranges ∧
    (l.foldl takeCaughtAborted s).walk = s.walk ∧ (l.foldl takeCaughtAborted s).heat = s.heat ∧ (l.foldl takeCaughtAborted s).streams = s.streams ∧
    (l.foldl takeCaughtAborted s).accesses = s.accesses ∧ (l.foldl takeCaughtAborted s).spindle = s.spindle ∧
    (l.foldl takeCaughtAborted s).params = s.params ∧ (l.foldl takeCaughtAborted s).pending = s.pending := by
  and_intros <;> (apply foldl_keeps; intros; simp)

@[simp] theorem finishStart_frame (s : State) :
    (finishStart s).routing = s.routing ∧ (finishStart s).ranges = s.ranges ∧ (finishStart s).walk = s.walk ∧
    (finishStart s).heat = s.heat ∧ (finishStart s).streams = s.streams ∧
    (finishStart s).accesses = s.accesses ∧ (finishStart s).params = s.params ∧ (finishStart s).pending = s.pending := by
  simp [finishStart]

@[simp] theorem faultSpindle_frame (s : State) :
    (faultSpindle s).commands = s.commands ∧ (faultSpindle s).routing = s.routing ∧ (faultSpindle s).map = s.map ∧
    (faultSpindle s).ranges = s.ranges ∧ (faultSpindle s).walk = s.walk ∧ (faultSpindle s).scanner = s.scanner ∧
    (faultSpindle s).heat = s.heat ∧ (faultSpindle s).streams = s.streams ∧ (faultSpindle s).accesses = s.accesses ∧
    (faultSpindle s).arbiter = s.arbiter ∧ (faultSpindle s).mover = s.mover ∧
    (faultSpindle s).reclaimer = s.reclaimer ∧ (faultSpindle s).flash = s.flash ∧ (faultSpindle s).disk = s.disk ∧
    (faultSpindle s).params = s.params ∧ (faultSpindle s).choice = s.choice ∧ (faultSpindle s).pending = s.pending := by
  unfold faultSpindle; dsimp only; split <;> simp

@[simp] theorem faultPort_frame (p : Port) (s : State) :
    (faultPort p s).routing = s.routing ∧ (faultPort p s).ranges = s.ranges ∧ (faultPort p s).walk = s.walk ∧
    (faultPort p s).heat = s.heat ∧ (faultPort p s).streams = s.streams ∧ (faultPort p s).accesses = s.accesses ∧
    (faultPort p s).params = s.params ∧ (faultPort p s).pending = s.pending := by
  unfold faultPort; dsimp only; (repeat' split) <;> simp

@[simp] theorem countTimeout_frame (p : Port) (s : State) :
    (countTimeout p s).routing = s.routing ∧ (countTimeout p s).ranges = s.ranges ∧
    (countTimeout p s).walk = s.walk ∧ (countTimeout p s).heat = s.heat ∧ (countTimeout p s).streams = s.streams ∧
    (countTimeout p s).accesses = s.accesses ∧ (countTimeout p s).params = s.params ∧
    (countTimeout p s).pending = s.pending := by
  unfold countTimeout; split <;> simp

@[simp] theorem ownerAbort_frame (p : Port) (id : Nat) (s : State) :
    (ownerAbort p id s).routing = s.routing ∧ (ownerAbort p id s).ranges = s.ranges ∧
    (ownerAbort p id s).walk = s.walk ∧ (ownerAbort p id s).heat = s.heat ∧ (ownerAbort p id s).streams = s.streams ∧
    (ownerAbort p id s).accesses = s.accesses ∧ (ownerAbort p id s).spindle = s.spindle ∧
    (ownerAbort p id s).params = s.params ∧ (ownerAbort p id s).pending = s.pending := by
  unfold ownerAbort; (repeat' split) <;> simp

@[simp] theorem abortJob_frame (a : AbortCause) (c : CtxId) (s : State) :
    (abortJob a c s).routing = s.routing ∧ (abortJob a c s).ranges = s.ranges ∧ (abortJob a c s).walk = s.walk ∧
    (abortJob a c s).heat = s.heat ∧ (abortJob a c s).streams = s.streams ∧
    (abortJob a c s).accesses = s.accesses ∧ (abortJob a c s).spindle = s.spindle ∧
    (abortJob a c s).params = s.params ∧ (abortJob a c s).pending = s.pending := by
  unfold abortJob; dsimp only; (repeat' split) <;> simp

@[simp] theorem foldl_abortJob_frame (a : AbortCause) (l : List CtxId) (s : State) :
    (l.foldl (fun u c => abortJob a c u) s).routing = s.routing ∧
    (l.foldl (fun u c => abortJob a c u) s).ranges = s.ranges ∧
    (l.foldl (fun u c => abortJob a c u) s).walk = s.walk ∧
    (l.foldl (fun u c => abortJob a c u) s).heat = s.heat ∧
    (l.foldl (fun u c => abortJob a c u) s).streams = s.streams ∧
    (l.foldl (fun u c => abortJob a c u) s).accesses = s.accesses ∧
    (l.foldl (fun u c => abortJob a c u) s).spindle = s.spindle ∧
    (l.foldl (fun u c => abortJob a c u) s).params = s.params ∧
    (l.foldl (fun u c => abortJob a c u) s).pending = s.pending := by
  and_intros <;> (apply foldl_keeps; intros; simp)

@[simp] theorem dropAwaitAck_frame (s : State) (k : JobClass) :
    (dropAwaitAck s k).link = s.link ∧ (dropAwaitAck s k).commands = s.commands ∧
    (dropAwaitAck s k).routing = s.routing ∧ (dropAwaitAck s k).map = s.map ∧ (dropAwaitAck s k).ranges = s.ranges ∧
    (dropAwaitAck s k).walk = s.walk ∧ (dropAwaitAck s k).scanner = s.scanner ∧ (dropAwaitAck s k).heat = s.heat ∧
    (dropAwaitAck s k).streams = s.streams ∧ (dropAwaitAck s k).accesses = s.accesses ∧
    (dropAwaitAck s k).mover = s.mover ∧ (dropAwaitAck s k).reclaimer = s.reclaimer ∧
    (dropAwaitAck s k).flash = s.flash ∧ (dropAwaitAck s k).disk = s.disk ∧ (dropAwaitAck s k).spindle = s.spindle ∧
    (dropAwaitAck s k).sup = s.sup ∧ (dropAwaitAck s k).params = s.params ∧ (dropAwaitAck s k).choice = s.choice ∧
    (dropAwaitAck s k).pending = s.pending := by
  unfold dropAwaitAck; split <;> simp

@[simp] theorem foldl_dropAwaitAck_frame (l : List JobClass) (s : State) :
    (l.foldl dropAwaitAck s).link = s.link ∧ (l.foldl dropAwaitAck s).commands = s.commands ∧
    (l.foldl dropAwaitAck s).routing = s.routing ∧ (l.foldl dropAwaitAck s).map = s.map ∧
    (l.foldl dropAwaitAck s).ranges = s.ranges ∧ (l.foldl dropAwaitAck s).walk = s.walk ∧
    (l.foldl dropAwaitAck s).scanner = s.scanner ∧ (l.foldl dropAwaitAck s).heat = s.heat ∧
    (l.foldl dropAwaitAck s).streams = s.streams ∧ (l.foldl dropAwaitAck s).accesses = s.accesses ∧
    (l.foldl dropAwaitAck s).mover = s.mover ∧ (l.foldl dropAwaitAck s).reclaimer = s.reclaimer ∧
    (l.foldl dropAwaitAck s).flash = s.flash ∧ (l.foldl dropAwaitAck s).disk = s.disk ∧
    (l.foldl dropAwaitAck s).spindle = s.spindle ∧ (l.foldl dropAwaitAck s).sup = s.sup ∧
    (l.foldl dropAwaitAck s).params = s.params ∧ (l.foldl dropAwaitAck s).choice = s.choice ∧
    (l.foldl dropAwaitAck s).pending = s.pending := by
  and_intros <;> (apply foldl_keeps; intros; simp)

@[simp] theorem holdMover_frame (s : State) :
    (holdMover s).routing = s.routing ∧ (holdMover s).ranges = s.ranges ∧ (holdMover s).walk = s.walk ∧
    (holdMover s).heat = s.heat ∧ (holdMover s).streams = s.streams ∧
    (holdMover s).accesses = s.accesses ∧ (holdMover s).spindle = s.spindle ∧ (holdMover s).params = s.params ∧
    (holdMover s).pending = s.pending := by
  unfold holdMover; dsimp only; split <;> simp

@[simp] theorem releaseMover_frame (s : State) :
    (releaseMover s).link = s.link ∧ (releaseMover s).commands = s.commands ∧
    (releaseMover s).routing = s.routing ∧ (releaseMover s).map = s.map ∧ (releaseMover s).ranges = s.ranges ∧
    (releaseMover s).walk = s.walk ∧ (releaseMover s).scanner = s.scanner ∧ (releaseMover s).heat = s.heat ∧
    (releaseMover s).streams = s.streams ∧ (releaseMover s).accesses = s.accesses ∧
    (releaseMover s).arbiter = s.arbiter ∧ (releaseMover s).reclaimer = s.reclaimer ∧
    (releaseMover s).flash = s.flash ∧ (releaseMover s).disk = s.disk ∧ (releaseMover s).spindle = s.spindle ∧
    (releaseMover s).sup = s.sup ∧ (releaseMover s).params = s.params ∧ (releaseMover s).choice = s.choice ∧
    (releaseMover s).pending = s.pending := by
  simp [releaseMover]

/-- A release of Mover leaves each context as it is but for its watchdog (R145). -/
theorem releaseMover_ctx (s : State) (c : CtxId) :
    (releaseMover s).ctx c = (s.ctx c).map Context.stopWatchdog ∧ (releaseMover s).mover.failure = s.mover.failure := by
  cases c <;> exact ⟨rfl, rfl⟩

@[simp] theorem takeCompletion_frame (p : Port) (x : Piece) (st : PieceStatus) (s : State) :
    (takeCompletion p x st s).routing = s.routing ∧ (takeCompletion p x st s).ranges = s.ranges ∧
    (takeCompletion p x st s).walk = s.walk ∧ (takeCompletion p x st s).heat = s.heat ∧ (takeCompletion p x st s).streams = s.streams ∧
    (takeCompletion p x st s).accesses = s.accesses ∧ (takeCompletion p x st s).spindle = s.spindle ∧
    (takeCompletion p x st s).params = s.params ∧ (takeCompletion p x st s).pending = s.pending := by
  unfold takeCompletion; (repeat' split) <;> simp

@[simp] theorem beginProbe_frame (p : Port) (s : State) :
    (beginProbe p s).link = s.link ∧ (beginProbe p s).commands = s.commands ∧ (beginProbe p s).routing = s.routing ∧
    (beginProbe p s).map = s.map ∧ (beginProbe p s).ranges = s.ranges ∧ (beginProbe p s).walk = s.walk ∧
    (beginProbe p s).scanner = s.scanner ∧ (beginProbe p s).heat = s.heat ∧ (beginProbe p s).streams = s.streams ∧
    (beginProbe p s).accesses = s.accesses ∧ (beginProbe p s).arbiter = s.arbiter ∧
    (beginProbe p s).mover = s.mover ∧ (beginProbe p s).reclaimer = s.reclaimer ∧ (beginProbe p s).sup = s.sup ∧
    (beginProbe p s).params = s.params ∧ (beginProbe p s).choice = s.choice ∧ (beginProbe p s).pending = s.pending := by
  unfold beginProbe; dsimp only; split <;> simp

@[simp] theorem finishHold_frame (op : HoldOp) (res : Nat) (s : State) :
    (finishHold op res s).routing = s.routing ∧ (finishHold op res s).map = s.map ∧
    (finishHold op res s).ranges = s.ranges ∧ (finishHold op res s).walk = s.walk ∧
    (finishHold op res s).scanner = s.scanner ∧ (finishHold op res s).heat = s.heat ∧
    (finishHold op res s).streams = s.streams ∧ (finishHold op res s).accesses = s.accesses ∧
    (finishHold op res s).arbiter = s.arbiter ∧ (finishHold op res s).mover = s.mover ∧
    (finishHold op res s).reclaimer = s.reclaimer ∧ (finishHold op res s).flash = s.flash ∧
    (finishHold op res s).disk = s.disk ∧ (finishHold op res s).spindle = s.spindle ∧
    (finishHold op res s).sup = s.sup ∧ (finishHold op res s).params = s.params ∧
    (finishHold op res s).choice = s.choice ∧ (finishHold op res s).pending = s.pending := by
  unfold finishHold; (repeat' split) <;> simp

@[simp] theorem finishEnable_frame (m : Mode) (s : State) :
    (finishEnable m s).routing = s.routing ∧ (finishEnable m s).map = s.map ∧ (finishEnable m s).ranges = s.ranges ∧
    (finishEnable m s).walk = s.walk ∧ (finishEnable m s).heat = s.heat ∧ (finishEnable m s).streams = s.streams ∧
    (finishEnable m s).accesses = s.accesses ∧ (finishEnable m s).arbiter = s.arbiter ∧
    (finishEnable m s).mover = s.mover ∧ (finishEnable m s).reclaimer = s.reclaimer ∧
    (finishEnable m s).flash = s.flash ∧ (finishEnable m s).disk = s.disk ∧ (finishEnable m s).spindle = s.spindle ∧
    (finishEnable m s).params = s.params ∧ (finishEnable m s).choice = s.choice ∧
    (finishEnable m s).pending = s.pending := by
  unfold finishEnable; dsimp only; split <;> simp

@[simp] theorem flashReady_frame (s : State) :
    (flashReady s).routing = s.routing ∧ (flashReady s).map = s.map ∧ (flashReady s).ranges = s.ranges ∧
    (flashReady s).walk = s.walk ∧ (flashReady s).heat = s.heat ∧ (flashReady s).streams = s.streams ∧
    (flashReady s).accesses = s.accesses ∧ (flashReady s).arbiter = s.arbiter ∧ (flashReady s).mover = s.mover ∧
    (flashReady s).reclaimer = s.reclaimer ∧ (flashReady s).flash = s.flash ∧ (flashReady s).disk = s.disk ∧
    (flashReady s).spindle = s.spindle ∧ (flashReady s).params = s.params ∧ (flashReady s).choice = s.choice ∧
    (flashReady s).pending = s.pending := by
  unfold flashReady; (repeat' split) <;> simp

@[simp] theorem judgeSpinDown_frame (s : State) :
    (judgeSpinDown s).link = s.link ∧ (judgeSpinDown s).commands = s.commands ∧
    (judgeSpinDown s).routing = s.routing ∧ (judgeSpinDown s).map = s.map ∧ (judgeSpinDown s).ranges = s.ranges ∧
    (judgeSpinDown s).walk = s.walk ∧ (judgeSpinDown s).scanner = s.scanner ∧ (judgeSpinDown s).heat = s.heat ∧
    (judgeSpinDown s).streams = s.streams ∧ (judgeSpinDown s).accesses = s.accesses ∧
    (judgeSpinDown s).arbiter = s.arbiter ∧ (judgeSpinDown s).mover = s.mover ∧
    (judgeSpinDown s).reclaimer = s.reclaimer ∧ (judgeSpinDown s).flash = s.flash ∧ (judgeSpinDown s).sup = s.sup ∧
    (judgeSpinDown s).params = s.params ∧ (judgeSpinDown s).choice = s.choice ∧
    (judgeSpinDown s).pending = s.pending := by
  unfold judgeSpinDown; split <;> simp

@[simp] theorem judgeNeeds_frame (s : State) :
    (judgeNeeds s).link = s.link ∧ (judgeNeeds s).commands = s.commands ∧ (judgeNeeds s).routing = s.routing ∧
    (judgeNeeds s).map = s.map ∧ (judgeNeeds s).ranges = s.ranges ∧ (judgeNeeds s).walk = s.walk ∧
    (judgeNeeds s).scanner = s.scanner ∧ (judgeNeeds s).heat = s.heat ∧ (judgeNeeds s).streams = s.streams ∧
    (judgeNeeds s).accesses = s.accesses ∧ (judgeNeeds s).arbiter = s.arbiter ∧ (judgeNeeds s).mover = s.mover ∧
    (judgeNeeds s).reclaimer = s.reclaimer ∧ (judgeNeeds s).flash = s.flash ∧ (judgeNeeds s).sup = s.sup ∧
    (judgeNeeds s).params = s.params ∧ (judgeNeeds s).choice = s.choice ∧ (judgeNeeds s).pending = s.pending := by
  unfold judgeNeeds; split <;> simp

@[simp] theorem setDuties_frame (d : Duties) (s : State) :
    (setDuties d s).link = s.link ∧ (setDuties d s).commands = s.commands ∧ (setDuties d s).routing = s.routing ∧
    (setDuties d s).map = s.map ∧ (setDuties d s).ranges = s.ranges ∧ (setDuties d s).walk = s.walk ∧
    (setDuties d s).scanner = s.scanner ∧ (setDuties d s).heat = s.heat ∧ (setDuties d s).streams = s.streams ∧
    (setDuties d s).accesses = s.accesses ∧ (setDuties d s).arbiter = s.arbiter ∧ (setDuties d s).mover = s.mover ∧
    (setDuties d s).flash = s.flash ∧ (setDuties d s).disk = s.disk ∧ (setDuties d s).spindle = s.spindle ∧
    (setDuties d s).sup = s.sup ∧ (setDuties d s).params = s.params ∧ (setDuties d s).choice = s.choice ∧
    (setDuties d s).pending = s.pending := by
  unfold setDuties; split <;> simp

@[simp] theorem judgeDuties_frame (s : State) :
    (judgeDuties s).link = s.link ∧ (judgeDuties s).commands = s.commands ∧ (judgeDuties s).routing = s.routing ∧
    (judgeDuties s).map = s.map ∧ (judgeDuties s).ranges = s.ranges ∧ (judgeDuties s).walk = s.walk ∧
    (judgeDuties s).scanner = s.scanner ∧ (judgeDuties s).heat = s.heat ∧ (judgeDuties s).streams = s.streams ∧
    (judgeDuties s).accesses = s.accesses ∧ (judgeDuties s).arbiter = s.arbiter ∧ (judgeDuties s).mover = s.mover ∧
    (judgeDuties s).flash = s.flash ∧ (judgeDuties s).disk = s.disk ∧ (judgeDuties s).spindle = s.spindle ∧
    (judgeDuties s).sup = s.sup ∧ (judgeDuties s).params = s.params ∧ (judgeDuties s).choice = s.choice ∧
    (judgeDuties s).pending = s.pending := by
  unfold judgeDuties; split <;> simp

@[simp] theorem judgeHand_frame (s : State) :
    (judgeHand s).link = s.link ∧ (judgeHand s).commands = s.commands ∧ (judgeHand s).routing = s.routing ∧
    (judgeHand s).map = s.map ∧ (judgeHand s).ranges = s.ranges ∧ (judgeHand s).walk = s.walk ∧
    (judgeHand s).scanner = s.scanner ∧ (judgeHand s).heat = s.heat ∧ (judgeHand s).streams = s.streams ∧
    (judgeHand s).accesses = s.accesses ∧ (judgeHand s).arbiter = s.arbiter ∧ (judgeHand s).mover = s.mover ∧
    (judgeHand s).flash = s.flash ∧ (judgeHand s).disk = s.disk ∧ (judgeHand s).spindle = s.spindle ∧
    (judgeHand s).sup = s.sup ∧ (judgeHand s).params = s.params ∧ (judgeHand s).choice = s.choice ∧
    (judgeHand s).pending = s.pending := by
  and_intros <;> rfl

@[simp] theorem judgeIdleTimer_frame (s : State) :
    (judgeIdleTimer s).link = s.link ∧ (judgeIdleTimer s).commands = s.commands ∧
    (judgeIdleTimer s).routing = s.routing ∧ (judgeIdleTimer s).map = s.map ∧ (judgeIdleTimer s).ranges = s.ranges ∧
    (judgeIdleTimer s).walk = s.walk ∧ (judgeIdleTimer s).scanner = s.scanner ∧ (judgeIdleTimer s).heat = s.heat ∧
    (judgeIdleTimer s).streams = s.streams ∧ (judgeIdleTimer s).accesses = s.accesses ∧
    (judgeIdleTimer s).arbiter = s.arbiter ∧ (judgeIdleTimer s).mover = s.mover ∧
    (judgeIdleTimer s).reclaimer = s.reclaimer ∧ (judgeIdleTimer s).flash = s.flash ∧
    (judgeIdleTimer s).disk = s.disk ∧ (judgeIdleTimer s).sup = s.sup ∧ (judgeIdleTimer s).params = s.params ∧
    (judgeIdleTimer s).choice = s.choice ∧ (judgeIdleTimer s).pending = s.pending := by
  and_intros <;> rfl

@[simp] theorem judgeIdleFlush_frame (b s : State) :
    (judgeIdleFlush b s).link = s.link ∧ (judgeIdleFlush b s).commands = s.commands ∧
    (judgeIdleFlush b s).routing = s.routing ∧ (judgeIdleFlush b s).map = s.map ∧
    (judgeIdleFlush b s).ranges = s.ranges ∧ (judgeIdleFlush b s).walk = s.walk ∧
    (judgeIdleFlush b s).scanner = s.scanner ∧ (judgeIdleFlush b s).heat = s.heat ∧
    (judgeIdleFlush b s).streams = s.streams ∧ (judgeIdleFlush b s).accesses = s.accesses ∧
    (judgeIdleFlush b s).arbiter = s.arbiter ∧ (judgeIdleFlush b s).mover = s.mover ∧
    (judgeIdleFlush b s).flash = s.flash ∧ (judgeIdleFlush b s).disk = s.disk ∧
    (judgeIdleFlush b s).spindle = s.spindle ∧ (judgeIdleFlush b s).sup = s.sup ∧
    (judgeIdleFlush b s).params = s.params ∧ (judgeIdleFlush b s).choice = s.choice ∧
    (judgeIdleFlush b s).pending = s.pending := by
  and_intros <;> rfl

@[simp] theorem stopWatchdog_frame (s : State) (c : CtxId) :
    (stopWatchdog s c).link = s.link ∧ (stopWatchdog s c).commands = s.commands ∧
    (stopWatchdog s c).routing = s.routing ∧ (stopWatchdog s c).map = s.map ∧ (stopWatchdog s c).ranges = s.ranges ∧
    (stopWatchdog s c).walk = s.walk ∧ (stopWatchdog s c).scanner = s.scanner ∧ (stopWatchdog s c).heat = s.heat ∧
    (stopWatchdog s c).streams = s.streams ∧ (stopWatchdog s c).accesses = s.accesses ∧
    (stopWatchdog s c).arbiter = s.arbiter ∧ (stopWatchdog s c).reclaimer = s.reclaimer ∧
    (stopWatchdog s c).flash = s.flash ∧ (stopWatchdog s c).disk = s.disk ∧ (stopWatchdog s c).spindle = s.spindle ∧
    (stopWatchdog s c).sup = s.sup ∧ (stopWatchdog s c).params = s.params ∧ (stopWatchdog s c).choice = s.choice ∧
    (stopWatchdog s c).pending = s.pending := by
  unfold stopWatchdog; split <;> simp

@[simp] theorem judgeWatchdogs_frame (s : State) :
    (judgeWatchdogs s).link = s.link ∧ (judgeWatchdogs s).commands = s.commands ∧
    (judgeWatchdogs s).routing = s.routing ∧ (judgeWatchdogs s).map = s.map ∧ (judgeWatchdogs s).ranges = s.ranges ∧
    (judgeWatchdogs s).walk = s.walk ∧ (judgeWatchdogs s).scanner = s.scanner ∧ (judgeWatchdogs s).heat = s.heat ∧
    (judgeWatchdogs s).streams = s.streams ∧ (judgeWatchdogs s).accesses = s.accesses ∧
    (judgeWatchdogs s).arbiter = s.arbiter ∧ (judgeWatchdogs s).reclaimer = s.reclaimer ∧
    (judgeWatchdogs s).flash = s.flash ∧ (judgeWatchdogs s).disk = s.disk ∧ (judgeWatchdogs s).spindle = s.spindle ∧
    (judgeWatchdogs s).sup = s.sup ∧ (judgeWatchdogs s).params = s.params ∧ (judgeWatchdogs s).choice = s.choice ∧
    (judgeWatchdogs s).pending = s.pending := by
  simp [judgeWatchdogs]

@[simp] theorem judgeSpin_frame (s : State) :
    (judgeSpin s).routing = s.routing ∧ (judgeSpin s).map = s.map ∧ (judgeSpin s).ranges = s.ranges ∧
    (judgeSpin s).walk = s.walk ∧ (judgeSpin s).scanner = s.scanner ∧ (judgeSpin s).heat = s.heat ∧
    (judgeSpin s).streams = s.streams ∧ (judgeSpin s).accesses = s.accesses ∧ (judgeSpin s).arbiter = s.arbiter ∧
    (judgeSpin s).mover = s.mover ∧ (judgeSpin s).reclaimer = s.reclaimer ∧ (judgeSpin s).flash = s.flash ∧
    (judgeSpin s).disk = s.disk ∧ (judgeSpin s).spindle = s.spindle ∧ (judgeSpin s).sup = s.sup ∧
    (judgeSpin s).params = s.params ∧ (judgeSpin s).choice = s.choice ∧ (judgeSpin s).pending = s.pending := by
  unfold judgeSpin; (repeat' split) <;> simp

@[simp] theorem settle_frame (b s : State) :
    (settle b s).routing = s.routing ∧ (settle b s).map = s.map ∧ (settle b s).ranges = s.ranges ∧
    (settle b s).walk = s.walk ∧ (settle b s).heat = s.heat ∧ (settle b s).streams = s.streams ∧
    (settle b s).accesses = s.accesses ∧ (settle b s).arbiter = s.arbiter ∧ (settle b s).flash = s.flash ∧
    (settle b s).params = s.params ∧ (settle b s).choice = s.choice ∧ (settle b s).pending = s.pending := by
  simp [settle]

@[simp] theorem restartTick_frame (s : State) :
    (restartTick s).link = s.link ∧ (restartTick s).commands = s.commands ∧ (restartTick s).routing = s.routing ∧
    (restartTick s).map = s.map ∧ (restartTick s).ranges = s.ranges ∧ (restartTick s).walk = s.walk ∧
    (restartTick s).scanner = s.scanner ∧ (restartTick s).streams = s.streams ∧
    (restartTick s).accesses = s.accesses ∧ (restartTick s).arbiter = s.arbiter ∧ (restartTick s).mover = s.mover ∧
    (restartTick s).reclaimer = s.reclaimer ∧ (restartTick s).flash = s.flash ∧ (restartTick s).disk = s.disk ∧
    (restartTick s).spindle = s.spindle ∧ (restartTick s).sup = s.sup ∧ (restartTick s).params = s.params ∧
    (restartTick s).choice = s.choice ∧ (restartTick s).pending = s.pending := by
  unfold restartTick; split <;> simp

@[simp] theorem singleCandidate_frame (s : State) :
    (singleCandidate s).link = s.link ∧ (singleCandidate s).commands = s.commands ∧
    (singleCandidate s).routing = s.routing ∧ (singleCandidate s).map = s.map ∧
    (singleCandidate s).ranges = s.ranges ∧ (singleCandidate s).walk = s.walk ∧
    (singleCandidate s).scanner = s.scanner ∧ (singleCandidate s).streams = s.streams ∧
    (singleCandidate s).accesses = s.accesses ∧ (singleCandidate s).arbiter = s.arbiter ∧
    (singleCandidate s).mover = s.mover ∧ (singleCandidate s).reclaimer = s.reclaimer ∧
    (singleCandidate s).flash = s.flash ∧ (singleCandidate s).disk = s.disk ∧
    (singleCandidate s).spindle = s.spindle ∧ (singleCandidate s).sup = s.sup ∧
    (singleCandidate s).params = s.params ∧ (singleCandidate s).choice = s.choice ∧
    (singleCandidate s).pending = s.pending := by
  and_intros <;> rfl

@[simp] theorem stopWatchdogs_frame (s : State) :
    (stopWatchdogs s).link = s.link ∧ (stopWatchdogs s).commands = s.commands ∧
    (stopWatchdogs s).routing = s.routing ∧ (stopWatchdogs s).map = s.map ∧ (stopWatchdogs s).ranges = s.ranges ∧
    (stopWatchdogs s).walk = s.walk ∧ (stopWatchdogs s).scanner = s.scanner ∧ (stopWatchdogs s).heat = s.heat ∧
    (stopWatchdogs s).streams = s.streams ∧ (stopWatchdogs s).accesses = s.accesses ∧
    (stopWatchdogs s).arbiter = s.arbiter ∧ (stopWatchdogs s).reclaimer = s.reclaimer ∧
    (stopWatchdogs s).flash = s.flash ∧ (stopWatchdogs s).disk = s.disk ∧ (stopWatchdogs s).spindle = s.spindle ∧
    (stopWatchdogs s).sup = s.sup ∧ (stopWatchdogs s).params = s.params ∧ (stopWatchdogs s).choice = s.choice ∧
    (stopWatchdogs s).pending = s.pending := by
  unfold stopWatchdogs; split <;> simp

@[simp] theorem parameterEffect_frame (w : Params) (id : ParamId) (s : State) :
    (parameterEffect w id s).link = s.link ∧ (parameterEffect w id s).commands = s.commands ∧
    (parameterEffect w id s).routing = s.routing ∧ (parameterEffect w id s).map = s.map ∧
    (parameterEffect w id s).ranges = s.ranges ∧ (parameterEffect w id s).walk = s.walk ∧
    (parameterEffect w id s).scanner = s.scanner ∧ (parameterEffect w id s).streams = s.streams ∧
    (parameterEffect w id s).accesses = s.accesses ∧ (parameterEffect w id s).arbiter = s.arbiter ∧
    (parameterEffect w id s).reclaimer = s.reclaimer ∧ (parameterEffect w id s).flash = s.flash ∧
    (parameterEffect w id s).disk = s.disk ∧ (parameterEffect w id s).sup = s.sup ∧
    (parameterEffect w id s).params = s.params ∧ (parameterEffect w id s).choice = s.choice ∧
    (parameterEffect w id s).pending = s.pending := by
  unfold parameterEffect; split <;> (try split) <;> simp

@[simp] theorem storeParameter_frame (id : ParamId) (v : Nat) (s : State) :
    (storeParameter id v s).link = s.link ∧ (storeParameter id v s).commands = s.commands ∧
    (storeParameter id v s).routing = s.routing ∧ (storeParameter id v s).map = s.map ∧
    (storeParameter id v s).ranges = s.ranges ∧ (storeParameter id v s).walk = s.walk ∧
    (storeParameter id v s).scanner = s.scanner ∧ (storeParameter id v s).streams = s.streams ∧
    (storeParameter id v s).accesses = s.accesses ∧ (storeParameter id v s).arbiter = s.arbiter ∧
    (storeParameter id v s).reclaimer = s.reclaimer ∧ (storeParameter id v s).flash = s.flash ∧
    (storeParameter id v s).disk = s.disk ∧ (storeParameter id v s).sup = s.sup ∧
    (storeParameter id v s).choice = s.choice ∧ (storeParameter id v s).pending = s.pending := by
  simp [storeParameter]

@[simp] theorem idleOff_frame (s : State) :
    (idleOff s).link = s.link ∧ (idleOff s).commands = s.commands ∧ (idleOff s).routing = s.routing ∧
    (idleOff s).map = s.map ∧ (idleOff s).ranges = s.ranges ∧ (idleOff s).walk = s.walk ∧
    (idleOff s).scanner = s.scanner ∧ (idleOff s).heat = s.heat ∧ (idleOff s).streams = s.streams ∧
    (idleOff s).accesses = s.accesses ∧ (idleOff s).arbiter = s.arbiter ∧ (idleOff s).mover = s.mover ∧
    (idleOff s).flash = s.flash ∧ (idleOff s).disk = s.disk ∧ (idleOff s).spindle = s.spindle ∧
    (idleOff s).sup = s.sup ∧ (idleOff s).params = s.params ∧ (idleOff s).choice = s.choice ∧
    (idleOff s).pending = s.pending := by
  and_intros <;> rfl

@[simp] theorem countRevolution_frame (s : State) :
    (countRevolution s).link = s.link ∧ (countRevolution s).commands = s.commands ∧
    (countRevolution s).routing = s.routing ∧ (countRevolution s).map = s.map ∧
    (countRevolution s).ranges = s.ranges ∧ (countRevolution s).walk = s.walk ∧
    (countRevolution s).scanner = s.scanner ∧ (countRevolution s).heat = s.heat ∧
    (countRevolution s).streams = s.streams ∧ (countRevolution s).accesses = s.accesses ∧
    (countRevolution s).arbiter = s.arbiter ∧ (countRevolution s).mover = s.mover ∧
    (countRevolution s).flash = s.flash ∧ (countRevolution s).disk = s.disk ∧
    (countRevolution s).spindle = s.spindle ∧ (countRevolution s).sup = s.sup ∧
    (countRevolution s).params = s.params ∧ (countRevolution s).choice = s.choice ∧
    (countRevolution s).pending = s.pending := by
  unfold countRevolution; dsimp only; (repeat' split) <;> simp

@[simp] theorem advanceHand_frame (s : State) :
    (advanceHand s).link = s.link ∧ (advanceHand s).commands = s.commands ∧ (advanceHand s).routing = s.routing ∧
    (advanceHand s).map = s.map ∧ (advanceHand s).ranges = s.ranges ∧ (advanceHand s).walk = s.walk ∧
    (advanceHand s).scanner = s.scanner ∧ (advanceHand s).heat = s.heat ∧ (advanceHand s).streams = s.streams ∧
    (advanceHand s).accesses = s.accesses ∧ (advanceHand s).arbiter = s.arbiter ∧ (advanceHand s).mover = s.mover ∧
    (advanceHand s).flash = s.flash ∧ (advanceHand s).disk = s.disk ∧ (advanceHand s).spindle = s.spindle ∧
    (advanceHand s).sup = s.sup ∧ (advanceHand s).params = s.params ∧ (advanceHand s).choice = s.choice ∧
    (advanceHand s).pending = s.pending := by
  and_intros <;> rfl

@[simp] theorem countProgress_frame (b : Bool) (s : State) :
    (countProgress b s).link = s.link ∧ (countProgress b s).commands = s.commands ∧
    (countProgress b s).routing = s.routing ∧ (countProgress b s).map = s.map ∧
    (countProgress b s).ranges = s.ranges ∧ (countProgress b s).walk = s.walk ∧
    (countProgress b s).scanner = s.scanner ∧ (countProgress b s).heat = s.heat ∧
    (countProgress b s).streams = s.streams ∧ (countProgress b s).accesses = s.accesses ∧
    (countProgress b s).arbiter = s.arbiter ∧ (countProgress b s).mover = s.mover ∧
    (countProgress b s).flash = s.flash ∧ (countProgress b s).disk = s.disk ∧
    (countProgress b s).spindle = s.spindle ∧ (countProgress b s).params = s.params ∧
    (countProgress b s).choice = s.choice ∧ (countProgress b s).pending = s.pending := by
  unfold countProgress; (repeat' split) <;> simp

@[simp] theorem passHand_frame (b : Bool) (s : State) :
    (passHand b s).link = s.link ∧ (passHand b s).commands = s.commands ∧ (passHand b s).routing = s.routing ∧
    (passHand b s).map = s.map ∧ (passHand b s).ranges = s.ranges ∧ (passHand b s).walk = s.walk ∧
    (passHand b s).scanner = s.scanner ∧ (passHand b s).heat = s.heat ∧ (passHand b s).streams = s.streams ∧
    (passHand b s).accesses = s.accesses ∧ (passHand b s).arbiter = s.arbiter ∧ (passHand b s).mover = s.mover ∧
    (passHand b s).flash = s.flash ∧ (passHand b s).disk = s.disk ∧ (passHand b s).spindle = s.spindle ∧
    (passHand b s).params = s.params ∧ (passHand b s).choice = s.choice ∧ (passHand b s).pending = s.pending := by
  simp [passHand]

@[simp] theorem postFlush_frame (k : JobClass) (i : Nat) (s : State) :
    (postFlush k i s).link = s.link ∧ (postFlush k i s).commands = s.commands ∧
    (postFlush k i s).routing = s.routing ∧ (postFlush k i s).ranges = s.ranges ∧ (postFlush k i s).walk = s.walk ∧
    (postFlush k i s).scanner = s.scanner ∧ (postFlush k i s).heat = s.heat ∧
    (postFlush k i s).streams = s.streams ∧ (postFlush k i s).accesses = s.accesses ∧
    (postFlush k i s).mover = s.mover ∧ (postFlush k i s).flash = s.flash ∧ (postFlush k i s).disk = s.disk ∧
    (postFlush k i s).spindle = s.spindle ∧ (postFlush k i s).params = s.params ∧
    (postFlush k i s).choice = s.choice ∧ (postFlush k i s).pending = s.pending := by
  simp [postFlush]

@[simp] theorem holdReclaimer_frame (s : State) :
    (holdReclaimer s).link = s.link ∧ (holdReclaimer s).commands = s.commands ∧
    (holdReclaimer s).routing = s.routing ∧ (holdReclaimer s).map = s.map ∧ (holdReclaimer s).ranges = s.ranges ∧
    (holdReclaimer s).walk = s.walk ∧ (holdReclaimer s).scanner = s.scanner ∧ (holdReclaimer s).heat = s.heat ∧
    (holdReclaimer s).streams = s.streams ∧ (holdReclaimer s).accesses = s.accesses ∧
    (holdReclaimer s).arbiter = s.arbiter ∧ (holdReclaimer s).mover = s.mover ∧ (holdReclaimer s).flash = s.flash ∧
    (holdReclaimer s).disk = s.disk ∧ (holdReclaimer s).spindle = s.spindle ∧ (holdReclaimer s).sup = s.sup ∧
    (holdReclaimer s).params = s.params ∧ (holdReclaimer s).choice = s.choice ∧
    (holdReclaimer s).pending = s.pending := by
  and_intros <;> rfl

@[simp] theorem clearHeat_frame (s : State) :
    (clearHeat s).link = s.link ∧ (clearHeat s).commands = s.commands ∧ (clearHeat s).routing = s.routing ∧
    (clearHeat s).map = s.map ∧ (clearHeat s).ranges = s.ranges ∧ (clearHeat s).walk = s.walk ∧
    (clearHeat s).scanner = s.scanner ∧ (clearHeat s).streams = s.streams ∧ (clearHeat s).accesses = s.accesses ∧
    (clearHeat s).arbiter = s.arbiter ∧ (clearHeat s).mover = s.mover ∧ (clearHeat s).reclaimer = s.reclaimer ∧
    (clearHeat s).flash = s.flash ∧ (clearHeat s).disk = s.disk ∧ (clearHeat s).spindle = s.spindle ∧
    (clearHeat s).sup = s.sup ∧ (clearHeat s).params = s.params ∧ (clearHeat s).choice = s.choice ∧
    (clearHeat s).pending = s.pending := by
  and_intros <;> rfl

@[simp] theorem levelHeat_frame (v : Nat) (s : State) :
    (levelHeat v s).link = s.link ∧ (levelHeat v s).commands = s.commands ∧ (levelHeat v s).routing = s.routing ∧
    (levelHeat v s).map = s.map ∧ (levelHeat v s).ranges = s.ranges ∧ (levelHeat v s).walk = s.walk ∧
    (levelHeat v s).scanner = s.scanner ∧ (levelHeat v s).streams = s.streams ∧
    (levelHeat v s).accesses = s.accesses ∧ (levelHeat v s).arbiter = s.arbiter ∧ (levelHeat v s).mover = s.mover ∧
    (levelHeat v s).reclaimer = s.reclaimer ∧ (levelHeat v s).flash = s.flash ∧ (levelHeat v s).disk = s.disk ∧
    (levelHeat v s).spindle = s.spindle ∧ (levelHeat v s).sup = s.sup ∧ (levelHeat v s).params = s.params ∧
    (levelHeat v s).choice = s.choice ∧ (levelHeat v s).pending = s.pending := by
  and_intros <;> rfl

@[simp] theorem holdHeat_frame (s : State) :
    (holdHeat s).link = s.link ∧ (holdHeat s).commands = s.commands ∧ (holdHeat s).routing = s.routing ∧
    (holdHeat s).map = s.map ∧ (holdHeat s).ranges = s.ranges ∧ (holdHeat s).walk = s.walk ∧
    (holdHeat s).scanner = s.scanner ∧ (holdHeat s).arbiter = s.arbiter ∧ (holdHeat s).mover = s.mover ∧
    (holdHeat s).reclaimer = s.reclaimer ∧ (holdHeat s).flash = s.flash ∧ (holdHeat s).disk = s.disk ∧
    (holdHeat s).spindle = s.spindle ∧ (holdHeat s).sup = s.sup ∧ (holdHeat s).params = s.params ∧
    (holdHeat s).choice = s.choice ∧ (holdHeat s).pending = s.pending := by
  and_intros <;> rfl

@[simp] theorem releaseHeat_frame (s : State) :
    (releaseHeat s).link = s.link ∧ (releaseHeat s).commands = s.commands ∧ (releaseHeat s).routing = s.routing ∧
    (releaseHeat s).map = s.map ∧ (releaseHeat s).ranges = s.ranges ∧ (releaseHeat s).walk = s.walk ∧
    (releaseHeat s).scanner = s.scanner ∧ (releaseHeat s).streams = s.streams ∧
    (releaseHeat s).accesses = s.accesses ∧ (releaseHeat s).arbiter = s.arbiter ∧ (releaseHeat s).mover = s.mover ∧
    (releaseHeat s).reclaimer = s.reclaimer ∧ (releaseHeat s).flash = s.flash ∧ (releaseHeat s).disk = s.disk ∧
    (releaseHeat s).spindle = s.spindle ∧ (releaseHeat s).sup = s.sup ∧ (releaseHeat s).params = s.params ∧
    (releaseHeat s).choice = s.choice ∧ (releaseHeat s).pending = s.pending := by
  and_intros <;> rfl

@[simp] theorem retag_frame (i : Nat) (s : State) :
    (retag i s).link = s.link ∧ (retag i s).commands = s.commands ∧ (retag i s).routing = s.routing ∧
    (retag i s).ranges = s.ranges ∧ (retag i s).walk = s.walk ∧ (retag i s).scanner = s.scanner ∧
    (retag i s).heat = s.heat ∧ (retag i s).streams = s.streams ∧ (retag i s).accesses = s.accesses ∧
    (retag i s).arbiter = s.arbiter ∧ (retag i s).mover = s.mover ∧ (retag i s).flash = s.flash ∧
    (retag i s).disk = s.disk ∧ (retag i s).spindle = s.spindle ∧ (retag i s).sup = s.sup ∧
    (retag i s).params = s.params ∧ (retag i s).choice = s.choice ∧ (retag i s).pending = s.pending := by
  unfold retag; dsimp only; split <;> simp

@[simp] theorem endWalk_frame (s : State) :
    (endWalk s).routing = s.routing ∧ (endWalk s).map = s.map ∧ (endWalk s).ranges = s.ranges ∧
    (endWalk s).heat = s.heat ∧ (endWalk s).streams = s.streams ∧ (endWalk s).accesses = s.accesses ∧
    (endWalk s).arbiter = s.arbiter ∧ (endWalk s).mover = s.mover ∧ (endWalk s).reclaimer = s.reclaimer ∧
    (endWalk s).flash = s.flash ∧ (endWalk s).disk = s.disk ∧ (endWalk s).spindle = s.spindle ∧
    (endWalk s).params = s.params ∧ (endWalk s).choice = s.choice ∧ (endWalk s).pending = s.pending := by
  unfold endWalk; dsimp only; split <;> simp

@[simp] theorem takeGeometry_frame (n d : Nat) (s : State) :
    (takeGeometry n d s).link = s.link ∧ (takeGeometry n d s).commands = s.commands ∧
    (takeGeometry n d s).routing = s.routing ∧ (takeGeometry n d s).ranges = s.ranges ∧
    (takeGeometry n d s).walk = s.walk ∧ (takeGeometry n d s).scanner = s.scanner ∧
    (takeGeometry n d s).heat = s.heat ∧ (takeGeometry n d s).streams = s.streams ∧
    (takeGeometry n d s).accesses = s.accesses ∧ (takeGeometry n d s).arbiter = s.arbiter ∧
    (takeGeometry n d s).mover = s.mover ∧ (takeGeometry n d s).flash = s.flash ∧
    (takeGeometry n d s).disk = s.disk ∧ (takeGeometry n d s).spindle = s.spindle ∧
    (takeGeometry n d s).choice = s.choice ∧ (takeGeometry n d s).pending = s.pending := by
  and_intros <;> rfl

@[simp] theorem storeRange_frame (i : Nat) (e : Option RangeEntry) (t : Nat) (s : State) :
    (storeRange i e t s).commands = s.commands ∧ (storeRange i e t s).routing = s.routing ∧
    (storeRange i e t s).map = s.map ∧ (storeRange i e t s).heat = s.heat ∧
    (storeRange i e t s).streams = s.streams ∧ (storeRange i e t s).accesses = s.accesses ∧
    (storeRange i e t s).arbiter = s.arbiter ∧ (storeRange i e t s).mover = s.mover ∧
    (storeRange i e t s).reclaimer = s.reclaimer ∧ (storeRange i e t s).flash = s.flash ∧
    (storeRange i e t s).disk = s.disk ∧ (storeRange i e t s).spindle = s.spindle ∧
    (storeRange i e t s).sup = s.sup ∧ (storeRange i e t s).params = s.params ∧
    (storeRange i e t s).choice = s.choice ∧ (storeRange i e t s).pending = s.pending := by
  and_intros <;> rfl

@[simp] theorem oldestAccess_frame (s : State) :
    (oldestAccess s).link = s.link ∧ (oldestAccess s).commands = s.commands ∧ (oldestAccess s).routing = s.routing ∧
    (oldestAccess s).ranges = s.ranges ∧ (oldestAccess s).walk = s.walk ∧ (oldestAccess s).scanner = s.scanner ∧
    (oldestAccess s).streams = s.streams ∧ (oldestAccess s).mover = s.mover ∧ (oldestAccess s).flash = s.flash ∧
    (oldestAccess s).disk = s.disk ∧ (oldestAccess s).spindle = s.spindle ∧ (oldestAccess s).params = s.params ∧
    (oldestAccess s).choice = s.choice ∧ (oldestAccess s).pending = s.pending := by
  unfold oldestAccess; dsimp only; (repeat' split) <;> simp

end Sys2Proof.Machine
end

