-- ==== Sys2Proof/Laws/Kept.lean ====
section
/-! SUPPORT. Laws that every operation of a block keeps, each as a relation from a fixed start, so that a chain of
operations is one chain of lemmas: what Supervision keeps (mask, hold set, cursor, the law of the notice line), what the
map keeps (geometry and the law of the counts), what the link keeps (queue and flow control). -/

namespace Sys2Proof.Machine

open Sys2Proof.Safety

/-- What an event that is no command of Supervision's own keeps in it. -/
structure SupKept (a b : Supervision) : Prop where
  mask : b.mask = a.mask
  holds : b.holds = a.holds
  cursor : b.cursor = a.cursor
  notice : a.notice = noticeLine a.flags a.mask → b.notice = noticeLine b.flags b.mask
  grows : ∀ n : Nat, a.flags.getLsbD n = true → b.flags.getLsbD n = true

@[simp] theorem SupKept.rfl' (a : Supervision) : SupKept a a := ⟨rfl, rfl, rfl, id, fun _ => id⟩

/-- What every operation on slots keeps in the map. -/
structure MapKept (a b : ResidencyMap) : Prop where
  slotCount : b.slotCount = a.slotCount
  diskSize : b.diskSize = a.diskSize
  counts : CountsLaw a → CountsLaw b

@[simp] theorem MapKept.rfl' (a : ResidencyMap) : MapKept a a := ⟨rfl, rfl, id⟩

/-- What every operation but an arrival, a taking of the head and a link reset keeps in the link. -/
structure LinkKept (a b : Link) : Prop where
  queue : b.queue = a.queue
  ready : b.ready = a.ready

@[simp] theorem LinkKept.rfl' (a : Link) : LinkKept a a := ⟨rfl, rfl⟩

@[simp] theorem LinkKept.sent {a b : Link} (h : LinkKept a b) (l : List Completion) :
    LinkKept a { b with sent := l } := ⟨h.queue, h.ready⟩

@[simp] theorem LinkKept.headHold {a b : Link} (h : LinkKept a b) (o : Option HeadHold) :
    LinkKept a { b with headHold := o } := ⟨h.queue, h.ready⟩

/-- What the Mover's operations keep in the Job Arbiter outside its services: the mask, and the queues but for a
Pin-Fill that a resumed scan posts (R61), which keeps the queue within its capacity. -/
structure QueuesKept (a b : Arbiter) : Prop where
  queues : ∀ k, k ≠ .pinFill → b.queues.get k = a.queues.get k
  capacity : (a.queues.get .pinFill).length ≤ 16 → (b.queues.get .pinFill).length ≤ 16
  mask : b.mask = a.mask

@[simp] theorem QueuesKept.rfl' (a : Arbiter) : QueuesKept a a := ⟨fun _ _ => rfl, id, rfl⟩

@[simp] theorem QueuesKept.service {a b : Arbiter} (h : QueuesKept a b) (v : PerClass Service) :
    QueuesKept a { b with service := v } := ⟨h.queues, h.capacity, h.mask⟩

@[simp] theorem QueuesKept.lowest {a b : Arbiter} (h : QueuesKept a b) (k : JobClass) :
    QueuesKept a { b with lowest := k } := ⟨h.queues, h.capacity, h.mask⟩

/-- What every operation but a fault and a probe keeps in a port: its state and its probe timer. -/
structure PortKept (a b : PortUnit) : Prop where
  status : b.status = a.status
  probeTimer : b.probeTimer = a.probeTimer

@[simp] theorem PortKept.rfl' (a : PortUnit) : PortKept a a := ⟨rfl, rfl⟩

@[simp] theorem PortKept.lists {a b : PortUnit} (h : PortKept a b) (l : List Piece) (w : List Nat) (n : Nat)
    (m : List PortMessage) : PortKept a { b with list := l, withheld := w, timeouts := n, sent := m } :=
  ⟨h.status, h.probeTimer⟩

@[simp] theorem PortKept.sendAll {a b : PortUnit} (h : PortKept a b) (n : Nat) : PortKept a (b.sendAll n) :=
  ⟨h.status, h.probeTimer⟩

@[simp] theorem PortKept.without {a b : PortUnit} (h : PortKept a b) (id : Nat) : PortKept a (b.without id) :=
  ⟨h.status, h.probeTimer⟩

theorem SupKept.drive {a b : Supervision} (h : SupKept a b) (flags : BitVec 12) :
    SupKept a (b.drive (b.flags ||| flags) b.mask) :=
  ⟨h.mask, h.holds, h.cursor, fun _ => rfl, fun n hn => by simp [Supervision.drive, h.grows n hn]⟩

@[simp] theorem setFlag_sup {a : Supervision} {s : State} (f : EventFlag) (h : SupKept a s.sup) :
    SupKept a (setFlag f s).sup := h.drive _

@[simp] theorem SupKept.detectors {a b : Supervision} (h : SupKept a b) (w x y z : Bool) :
    SupKept a { b with freeBelow := w, freeReported := x, dirtyAbove := y, dirtyReported := z } :=
  ⟨h.mask, h.holds, h.cursor, h.notice, h.grows⟩

@[simp] theorem SupKept.mode {a b : Supervision} (h : SupKept a b) (m : Mode) : SupKept a { b with mode := m } :=
  ⟨h.mask, h.holds, h.cursor, h.notice, h.grows⟩

@[simp] theorem SupKept.enableWaiting {a b : Supervision} (h : SupKept a b) (w : Bool) :
    SupKept a { b with enableWaiting := w } :=
  ⟨h.mask, h.holds, h.cursor, h.notice, h.grows⟩

/-- A count after a slot's change is the count of the table after it (R10). -/
theorem recount_set (p : SlotRec → Bool) (l : List SlotRec) (i : Nat) (old new : SlotRec) (h : l[i]? = some old) :
    recount (l.countP p) (p old) (p new) = (l.set i new).countP p := by
  obtain ⟨hi, rfl⟩ := List.getElem?_eq_some_iff.mp h
  have hpos : p l[i] = true → 0 < l.countP p := fun hp => List.countP_pos_iff.mpr ⟨l[i], List.getElem_mem hi, hp⟩
  rw [List.countP_set hi]
  unfold recount
  cases hp : p l[i] <;> cases hn : p new <;> simp_all

theorem countsLaw_put {m : ResidencyMap} (h : CountsLaw m) {i : Nat} {old : SlotRec} (hi : m.slots[i]? = some old)
    (new : SlotRec) : CountsLaw (m.put i old new) := by
  obtain ⟨h1, h2, h3, h4⟩ := h
  refine ⟨?_, ?_, ?_, ?_⟩
  · simpa [ResidencyMap.put] using h1
  · simp only [ResidencyMap.put, h2]; exact recount_set _ _ _ _ _ hi
  · simp only [ResidencyMap.put, h3]; exact recount_set _ _ _ _ _ hi
  · simp only [ResidencyMap.put, h4]; exact recount_set _ _ _ _ _ hi

@[simp] theorem putSlot_map {a : ResidencyMap} {s : State} (i : Nat) (r : SlotRec) (h : MapKept a s.map) :
    MapKept a (putSlot i r s).map := by
  unfold putSlot
  split
  · exact h
  · rename_i old hold
    have key : MapKept a (s.map.put i old r) := ⟨h.slotCount, h.diskSize, fun ha => countsLaw_put (h.counts ha) hold r⟩
    dsimp only
    split
    · simpa using key
    · exact key

/-- A fold keeps a property that each of its steps keeps. -/
theorem foldl_invariant {α σ : Type} (P : σ → Prop) (f : σ → α → σ) (step : ∀ s a, P s → P (f s a)) (l : List α) (s : σ)
    (h : P s) : P (l.foldl f s) := by
  induction l generalizing s with
  | nil => exact h
  | cons a rest ih => exact ih _ (step s a h)

@[simp] theorem judgeFree_sup {k0 : Supervision} {s : State} (h : SupKept k0 s.sup) :
    SupKept k0 (judgeFree s).sup := by
  unfold judgeFree; (repeat' split) <;> simp [h]

@[simp] theorem judgeDirty_sup {k0 : Supervision} {s : State} (h : SupKept k0 s.sup) :
    SupKept k0 (judgeDirty s).sup := by
  unfold judgeDirty; (repeat' split) <;> simp [h]

@[simp] theorem judgeCrossings_sup {k0 : Supervision} {s : State} (h : SupKept k0 s.sup) :
    SupKept k0 (judgeCrossings s).sup := by
  simp [judgeCrossings, h]

@[simp] theorem modifySlot_map {k0 : ResidencyMap} {s : State} (i : Nat) (f : SlotRec → SlotRec)
    (h : MapKept k0 s.map) :
    MapKept k0 (modifySlot i f s).map := by
  simp [modifySlot, h]

@[simp] theorem sendCompletion_link {k0 : Link} {s : State} (c : Completion) (h : LinkKept k0 s.link) :
    LinkKept k0 (sendCompletion c s).link := by
  simp [sendCompletion, h]

@[simp] theorem answer_link {k0 : Link} {s : State} (t : Nat) (st : Status) (lba : Option Nat) (res : Result)
    (h : LinkKept k0 s.link) :
    LinkKept k0 (answer t st lba res s).link := by
  simp [answer, h]

@[simp] theorem answerGood_link {k0 : Link} {s : State} (t : Nat) (res : Result) (h : LinkKept k0 s.link) :
    LinkKept k0 (answerGood t res s).link := by
  simp [answerGood, h]

@[simp] theorem refuse_link {k0 : Link} {s : State} (t : Nat) (st : Status) (h : LinkKept k0 s.link) :
    LinkKept k0 (refuse t st s).link := by
  simp [refuse, h]

@[simp] theorem endHold_link {k0 : Link} {s : State} (h : LinkKept k0 s.link) :
    LinkKept k0 (endHold s).link := by
  simp [endHold, h]

@[simp] theorem placeHold_link {k0 : Link} {s : State} (t : Nat) (op : HoldOp) (h : LinkKept k0 s.link) :
    LinkKept k0 (placeHold t op s).link := by
  simp [placeHold, h]

@[simp] theorem setService_arbiter {k0 : Arbiter} {s : State} (k : JobClass) (v : Service)
    (h : QueuesKept k0 s.arbiter) :
    QueuesKept k0 (setService k v s).arbiter := by
  simp [setService, h]

@[simp] theorem sendWaiting_flash {k0 : PortUnit} {s : State} (p : Port) (h : PortKept k0 s.flash) :
    PortKept k0 (sendWaiting p s).flash := by
  unfold sendWaiting; split
  · cases p <;> simp [setPort, State.port, h]
  · exact h

@[simp] theorem sendWaiting_disk {k0 : PortUnit} {s : State} (p : Port) (h : PortKept k0 s.disk) :
    PortKept k0 (sendWaiting p s).disk := by
  unfold sendWaiting; split
  · cases p <;> simp [setPort, State.port, h]
  · exact h

@[simp] theorem joinPort_flash {k0 : PortUnit} {s : State} (p : Port) (x : Piece) (h : PortKept k0 s.flash) :
    PortKept k0 (joinPort p x s).flash := by
  unfold joinPort; refine sendWaiting_flash p ?_; cases p <;> simp [setPort, State.port, h]

@[simp] theorem joinPort_disk {k0 : PortUnit} {s : State} (p : Port) (x : Piece) (h : PortKept k0 s.disk) :
    PortKept k0 (joinPort p x s).disk := by
  unfold joinPort; refine sendWaiting_disk p ?_; cases p <;> simp [setPort, State.port, h]

@[simp] theorem sendMessage_flash {k0 : PortUnit} {s : State} (p : Port) (m : PortMessage) (h : PortKept k0 s.flash) :
    PortKept k0 (sendMessage p m s).flash := by
  cases p <;> simp [sendMessage, setPort, State.port, h]

@[simp] theorem sendMessage_disk {k0 : PortUnit} {s : State} (p : Port) (m : PortMessage) (h : PortKept k0 s.disk) :
    PortKept k0 (sendMessage p m s).disk := by
  cases p <;> simp [sendMessage, setPort, State.port, h]

@[simp] theorem sendStart_disk {k0 : PortUnit} {s : State} (h : PortKept k0 s.disk) :
    PortKept k0 (sendStart s).disk := by
  simp [sendStart, h]

@[simp] theorem sendStop_disk {k0 : PortUnit} {s : State} (h : PortKept k0 s.disk) :
    PortKept k0 (sendStop s).disk := by
  simp [sendStop, h]

@[simp] theorem actOnNeed_disk {k0 : PortUnit} {s : State} (h : PortKept k0 s.disk) :
    PortKept k0 (actOnNeed s).disk := by
  unfold actOnNeed; (repeat' split) <;> simp [h]

@[simp] theorem judgeStall_sup {k0 : Supervision} {s : State} (h : SupKept k0 s.sup) :
    SupKept k0 (judgeStall s).sup := by
  unfold judgeStall; (repeat' split) <;> simp [h]

@[simp] theorem enqueue_map {k0 : ResidencyMap} {s : State} (k : JobClass) (j : Job) (h : MapKept k0 s.map) :
    MapKept k0 (enqueue k j s).map := by
  unfold enqueue; dsimp only; split <;> simp [h]

@[simp] theorem post_sup {k0 : Supervision} {s : State} (k : JobClass) (j : Job) (h : SupKept k0 s.sup) :
    SupKept k0 (post k j s).sup := by
  unfold post; (repeat' split) <;> simp [h]

@[simp] theorem post_map {k0 : ResidencyMap} {s : State} (k : JobClass) (j : Job) (h : MapKept k0 s.map) :
    MapKept k0 (post k j s).map := by
  unfold post; (repeat' split) <;> simp [h]

@[simp] theorem postHotFill_sup {k0 : Supervision} {s : State} (c : Nat) (h : SupKept k0 s.sup) :
    SupKept k0 (postHotFill c s).sup := by
  unfold postHotFill; split <;> simp [h]

@[simp] theorem postHotFill_map {k0 : ResidencyMap} {s : State} (c : Nat) (h : MapKept k0 s.map) :
    MapKept k0 (postHotFill c s).map := by
  unfold postHotFill; split <;> simp [h]

@[simp] theorem postHotFills_sup {k0 : Supervision} {s : State} (g : Nat) (t : ChunkSet) (h : SupKept k0 s.sup) :
    SupKept k0 (postHotFills g t s).sup := by
  unfold postHotFills
  exact foldl_invariant (fun u : State => SupKept k0 u.sup) _ (fun u x hu => by simp [hu]) _ _ h

@[simp] theorem postHotFills_map {k0 : ResidencyMap} {s : State} (g : Nat) (t : ChunkSet) (h : MapKept k0 s.map) :
    MapKept k0 (postHotFills g t s).map := by
  unfold postHotFills
  exact foldl_invariant (fun u : State => MapKept k0 u.map) _ (fun u x hu => by simp [hu]) _ _ h

@[simp] theorem takeAccess_sup {k0 : Supervision} {s : State} (a : Access) (h : SupKept k0 s.sup) :
    SupKept k0 (takeAccess a s).sup := by
  unfold takeAccess; dsimp only; (repeat' split) <;> simp [h]

@[simp] theorem takeAccess_map {k0 : ResidencyMap} {s : State} (a : Access) (h : MapKept k0 s.map) :
    MapKept k0 (takeAccess a s).map := by
  unfold takeAccess; dsimp only; (repeat' split) <;> simp [h]

@[simp] theorem hintChunk_map {k0 : ResidencyMap} {s : State} (c : Nat) (h : MapKept k0 s.map) :
    MapKept k0 (hintChunk c s).map := by
  unfold hintChunk; split <;> simp [h]

@[simp] theorem demotionHint_map {k0 : ResidencyMap} {s : State} (g : Nat) (t : ChunkSet) (h : MapKept k0 s.map) :
    MapKept k0 (demotionHint g t s).map := by
  unfold demotionHint
  exact foldl_invariant (fun u : State => MapKept k0 u.map) _ (fun u x hu => by simp [hu]) _ _ h

@[simp] theorem visitEntry_sup {k0 : Supervision} {s : State} (i : Nat) (e : HeatEntry) (h : SupKept k0 s.sup) :
    SupKept k0 (visitEntry i e s).sup := by
  unfold visitEntry; dsimp only; (repeat' split) <;> simp [h]

@[simp] theorem visitEntry_map {k0 : ResidencyMap} {s : State} (i : Nat) (e : HeatEntry) (h : MapKept k0 s.map) :
    MapKept k0 (visitEntry i e s).map := by
  unfold visitEntry; dsimp only; (repeat' split) <;> simp [h]

@[simp] theorem sweep_sup {k0 : Supervision} {s : State} (h : SupKept k0 s.sup) :
    SupKept k0 (sweep s).sup := by
  unfold sweep; dsimp only; split <;> simp [h]

@[simp] theorem sweep_map {k0 : ResidencyMap} {s : State} (h : MapKept k0 s.map) :
    MapKept k0 (sweep s).map := by
  unfold sweep; dsimp only; split <;> simp [h]

@[simp] theorem completeIfDone_link {k0 : Link} {s : State} (t : Nat) (h : LinkKept k0 s.link) :
    LinkKept k0 (completeIfDone t s).link := by
  unfold completeIfDone; (repeat' split) <;> simp [h]

@[simp] theorem hostPieceMap_map {k0 : ResidencyMap} {s : State} (b : List Piece) (x : Piece) (st : PieceStatus)
    (h : MapKept k0 s.map) :
    MapKept k0 (hostPieceMap b x st s).map := by
  unfold hostPieceMap; split <;> simp [h]

@[simp] theorem makeFallback_flash {k0 : PortUnit} {s : State} (t : Nat) (run : Nat × Nat) (h : PortKept k0 s.flash) :
    PortKept k0 (makeFallback t s run).flash := by
  unfold makeFallback; dsimp only; (repeat' split) <;> simp [h]

@[simp] theorem makeFallback_disk {k0 : PortUnit} {s : State} (t : Nat) (run : Nat × Nat) (h : PortKept k0 s.disk) :
    PortKept k0 (makeFallback t s run).disk := by
  unfold makeFallback; dsimp only; (repeat' split) <;> simp [h]

@[simp] theorem foldl_makeFallback_flash {k0 : PortUnit} {s : State} (t : Nat) (l : List (Nat × Nat))
    (h : PortKept k0 s.flash) :
    PortKept k0 (l.foldl (makeFallback t) s).flash := by
  exact foldl_invariant (fun u : State => PortKept k0 u.flash) _ (fun u x hu => by simp [hu]) _ _ h

@[simp] theorem foldl_makeFallback_disk {k0 : PortUnit} {s : State} (t : Nat) (l : List (Nat × Nat))
    (h : PortKept k0 s.disk) :
    PortKept k0 (l.foldl (makeFallback t) s).disk := by
  exact foldl_invariant (fun u : State => PortKept k0 u.disk) _ (fun u x hu => by simp [hu]) _ _ h

@[simp] theorem takeHostPiece_map {k0 : ResidencyMap} {s : State} (p : Port) (b : List Piece) (x : Piece)
    (st : PieceStatus) (h : MapKept k0 s.map) :
    MapKept k0 (takeHostPiece p b x st s).map := by
  unfold takeHostPiece; dsimp only; split <;> simp [h]

@[simp] theorem takeHostPiece_link {k0 : Link} {s : State} (p : Port) (b : List Piece) (x : Piece)
    (st : PieceStatus) (h : LinkKept k0 s.link) :
    LinkKept k0 (takeHostPiece p b x st s).link := by
  unfold takeHostPiece; dsimp only; split <;> simp [h]

@[simp] theorem takeHostPiece_flash {k0 : PortUnit} {s : State} (p : Port) (b : List Piece) (x : Piece)
    (st : PieceStatus) (h : PortKept k0 s.flash) :
    PortKept k0 (takeHostPiece p b x st s).flash := by
  unfold takeHostPiece; dsimp only; split <;> simp [h]

@[simp] theorem takeHostPiece_disk {k0 : PortUnit} {s : State} (p : Port) (b : List Piece) (x : Piece)
    (st : PieceStatus) (h : PortKept k0 s.disk) :
    PortKept k0 (takeHostPiece p b x st s).disk := by
  unfold takeHostPiece; dsimp only; split <;> simp [h]

@[simp] theorem makeHostPiece_map {k0 : ResidencyMap} {s : State} (t : Nat) (q : PieceSpec) (h : MapKept k0 s.map) :
    MapKept k0 (makeHostPiece t s q).map := by
  unfold makeHostPiece; dsimp only; (repeat' split) <;> simp [h]

@[simp] theorem makeHostPiece_link {k0 : Link} {s : State} (t : Nat) (q : PieceSpec) (h : LinkKept k0 s.link) :
    LinkKept k0 (makeHostPiece t s q).link := by
  unfold makeHostPiece; dsimp only; (repeat' split) <;> simp [h]

@[simp] theorem makeHostPiece_flash {k0 : PortUnit} {s : State} (t : Nat) (q : PieceSpec) (h : PortKept k0 s.flash) :
    PortKept k0 (makeHostPiece t s q).flash := by
  unfold makeHostPiece; dsimp only; (repeat' split) <;> simp [h]

@[simp] theorem makeHostPiece_disk {k0 : PortUnit} {s : State} (t : Nat) (q : PieceSpec) (h : PortKept k0 s.disk) :
    PortKept k0 (makeHostPiece t s q).disk := by
  unfold makeHostPiece; dsimp only; (repeat' split) <;> simp [h]

@[simp] theorem foldl_makeHostPiece_map {k0 : ResidencyMap} {s : State} (t : Nat) (l : List PieceSpec)
    (h : MapKept k0 s.map) :
    MapKept k0 (l.foldl (makeHostPiece t) s).map := by
  exact foldl_invariant (fun u : State => MapKept k0 u.map) _ (fun u x hu => by simp [hu]) _ _ h

@[simp] theorem foldl_makeHostPiece_link {k0 : Link} {s : State} (t : Nat) (l : List PieceSpec)
    (h : LinkKept k0 s.link) :
    LinkKept k0 (l.foldl (makeHostPiece t) s).link := by
  exact foldl_invariant (fun u : State => LinkKept k0 u.link) _ (fun u x hu => by simp [hu]) _ _ h

@[simp] theorem foldl_makeHostPiece_flash {k0 : PortUnit} {s : State} (t : Nat) (l : List PieceSpec)
    (h : PortKept k0 s.flash) :
    PortKept k0 (l.foldl (makeHostPiece t) s).flash := by
  exact foldl_invariant (fun u : State => PortKept k0 u.flash) _ (fun u x hu => by simp [hu]) _ _ h

@[simp] theorem foldl_makeHostPiece_disk {k0 : PortUnit} {s : State} (t : Nat) (l : List PieceSpec)
    (h : PortKept k0 s.disk) :
    PortKept k0 (l.foldl (makeHostPiece t) s).disk := by
  exact foldl_invariant (fun u : State => PortKept k0 u.disk) _ (fun u x hu => by simp [hu]) _ _ h

@[simp] theorem applySlot_map {k0 : ResidencyMap} {s : State} (w : Option (Nat × SlotRec)) (h : MapKept k0 s.map) :
    MapKept k0 (applySlot w s).map := by
  unfold applySlot; split <;> simp [h]

@[simp] theorem applyPlan_map {k0 : ResidencyMap} {s : State} (r : CommandRec) (pl : Plan) (h : MapKept k0 s.map) :
    MapKept k0 (applyPlan r pl s).map := by
  simp [applyPlan, h]

@[simp] theorem applyPlan_link {k0 : Link} {s : State} (r : CommandRec) (pl : Plan) (h : LinkKept k0 s.link) :
    LinkKept k0 (applyPlan r pl s).link := by
  simp [applyPlan, h]

@[simp] theorem applyPlan_flash {k0 : PortUnit} {s : State} (r : CommandRec) (pl : Plan) (h : PortKept k0 s.flash) :
    PortKept k0 (applyPlan r pl s).flash := by
  simp [applyPlan, h]

@[simp] theorem applyPlan_disk {k0 : PortUnit} {s : State} (r : CommandRec) (pl : Plan) (h : PortKept k0 s.disk) :
    PortKept k0 (applyPlan r pl s).disk := by
  simp [applyPlan, h]

@[simp] theorem makeWaiting_link {k0 : Link} {s : State} (e : Nat × (Nat × Nat)) (h : LinkKept k0 s.link) :
    LinkKept k0 (makeWaiting s e).link := by
  unfold makeWaiting; split <;> simp [h]

@[simp] theorem makeWaiting_flash {k0 : PortUnit} {s : State} (e : Nat × (Nat × Nat)) (h : PortKept k0 s.flash) :
    PortKept k0 (makeWaiting s e).flash := by
  unfold makeWaiting; split <;> simp [h]

@[simp] theorem makeWaiting_disk {k0 : PortUnit} {s : State} (e : Nat × (Nat × Nat)) (h : PortKept k0 s.disk) :
    PortKept k0 (makeWaiting s e).disk := by
  unfold makeWaiting; split <;> simp [h]

@[simp] theorem setServiceState_arbiter {k0 : Arbiter} {s : State} (k : JobClass) (st : ServiceState)
    (h : QueuesKept k0 s.arbiter) :
    QueuesKept k0 (setServiceState k st s).arbiter := by
  unfold setServiceState; split <;> simp [h]

@[simp] theorem suspend_arbiter {k0 : Arbiter} {s : State} (k : JobClass) (c : CtxId) (h : QueuesKept k0 s.arbiter) :
    QueuesKept k0 (suspend k c s).arbiter := by
  simp [suspend, h]

@[simp] theorem promotePending_arbiter {k0 : Arbiter} {s : State} (h : QueuesKept k0 s.arbiter) :
    QueuesKept k0 ((promotePending s).1).arbiter := by
  unfold promotePending; split <;> simp [h]

@[simp] theorem resumeSuspended_arbiter {k0 : Arbiter} {s : State} (h : QueuesKept k0 s.arbiter) :
    QueuesKept k0 ((resumeSuspended s).1).arbiter := by
  unfold resumeSuspended; split <;> simp [h]

@[simp] theorem releaseJobSlot_map {k0 : ResidencyMap} {s : State} (x : Context) (h : MapKept k0 s.map) :
    MapKept k0 (releaseJobSlot x s).map := by
  unfold releaseJobSlot; split <;> simp [h]

@[simp] theorem recordEnd_sup {k0 : Supervision} {s : State} (x : Context) (e : JobEnd) (h : SupKept k0 s.sup) :
    SupKept k0 (recordEnd x e s).sup := by
  unfold recordEnd; split <;> simp [h]

@[simp] theorem endServiceOf_arbiter {k0 : Arbiter} {s : State} (k : JobClass) (h : QueuesKept k0 s.arbiter) :
    QueuesKept k0 (endServiceOf k s).arbiter := by
  unfold endServiceOf; dsimp only; split <;> simp [h]

@[simp] theorem takeJobEnd_sup {k0 : Supervision} {s : State} (k : JobClass) (c : Option AbortCause)
    (h : SupKept k0 s.sup) :
    SupKept k0 (takeJobEnd k c s).sup := by
  unfold takeJobEnd; (repeat' split) <;> simp [h]

@[simp] theorem takeJobEnd_arbiter {k0 : Arbiter} {s : State} (k : JobClass) (c : Option AbortCause)
    (h : QueuesKept k0 s.arbiter) :
    QueuesKept k0 (takeJobEnd k c s).arbiter := by
  unfold takeJobEnd; (repeat' split) <;> simp [h]

@[simp] theorem stallScanner_sup {k0 : Supervision} {s : State} (e c : Nat) (h : SupKept k0 s.sup) :
    SupKept k0 (stallScanner e c s).sup := by
  unfold stallScanner; dsimp only; split <;> simp [h]

@[simp] theorem scanChunk_sup {k0 : Supervision} {s : State} (h : SupKept k0 s.sup) :
    SupKept k0 (scanChunk s).sup := by
  unfold scanChunk; (repeat' split) <;> simp [h]

@[simp] theorem scanChunk_map {k0 : ResidencyMap} {s : State} (h : MapKept k0 s.map) :
    MapKept k0 (scanChunk s).map := by
  unfold scanChunk; (repeat' split) <;> simp [h]

/-- A posted Pin-Fill joins its queue within the capacity of 16 (7.1, R115). -/
@[simp] theorem post_pinFill_arbiter {k0 : Arbiter} {s : State} (j : Job) (h : QueuesKept k0 s.arbiter) :
    QueuesKept k0 (post .pinFill j s).arbiter := by
  have key : queueFull s .pinFill = false → QueuesKept k0 (enqueue .pinFill j s).arbiter := by
    intro hf
    have e : (enqueue .pinFill j s).arbiter =
        { s.arbiter with queues := s.arbiter.queues.set .pinFill (s.arbiter.queues.get .pinFill ++ [j]) } := by
      unfold enqueue; dsimp only; split <;> simp
    rw [e]
    refine ⟨fun k hk => ?_, fun _ => ?_, h.mask⟩
    · rw [← h.queues k hk]; cases k <;> first | rfl | exact absurd rfl hk
    · have hn : ¬ 16 ≤ (s.arbiter.queues.get .pinFill).length :=
        of_decide_eq_false hf
      simp only [PerClass.get, PerClass.set] at hn ⊢
      simp only [List.length_append, List.length_singleton]
      omega
  unfold post
  split
  · exact h
  · split
    · exact h
    · split
      · simpa using h
      · exact key (by simpa using ‹¬queueFull s .pinFill = true›)

@[simp] theorem scanChunk_arbiter {k0 : Arbiter} {s : State} (h : QueuesKept k0 s.arbiter) :
    QueuesKept k0 (scanChunk s).arbiter := by
  unfold scanChunk; (repeat' split) <;> simp [h]

@[simp] theorem resumeScan_sup {k0 : Supervision} {s : State} (h : SupKept k0 s.sup) :
    SupKept k0 (resumeScan s).sup := by
  unfold resumeScan; split <;> simp [h]

@[simp] theorem resumeScan_arbiter {k0 : Arbiter} {s : State} (h : QueuesKept k0 s.arbiter) :
    QueuesKept k0 (resumeScan s).arbiter := by
  unfold resumeScan; split <;> simp [h]

@[simp] theorem endJob_sup {k0 : Supervision} {s : State} (c : CtxId) (e : JobEnd) (h : SupKept k0 s.sup) :
    SupKept k0 ((endJob c e s).1).sup := by
  unfold endJob; dsimp only; (repeat' split) <;> simp (maxDischargeDepth := 4) [h]

@[simp] theorem endJob_map {k0 : ResidencyMap} {s : State} (c : CtxId) (e : JobEnd) (h : MapKept k0 s.map) :
    MapKept k0 ((endJob c e s).1).map := by
  unfold endJob; dsimp only; (repeat' split) <;> simp (maxDischargeDepth := 4) [h]

@[simp] theorem endJob_arbiter {k0 : Arbiter} {s : State} (c : CtxId) (e : JobEnd) (h : QueuesKept k0 s.arbiter) :
    QueuesKept k0 ((endJob c e s).1).arbiter := by
  unfold endJob; dsimp only; (repeat' split) <;> simp (maxDischargeDepth := 4) [h]

@[simp] theorem judgeMediaLoss_sup {k0 : Supervision} {s : State} (x : Context) (q : Piece) (st : PieceStatus)
    (h : SupKept k0 s.sup) :
    SupKept k0 (judgeMediaLoss x q st s).sup := by
  unfold judgeMediaLoss; (repeat' split) <;> simp [h]

@[simp] theorem failAtPiece_sup {k0 : Supervision} {s : State} (c : CtxId) (p : Port) (q : Piece) (st : PieceStatus)
    (h : SupKept k0 s.sup) :
    SupKept k0 ((failAtPiece c p q st s).1).sup := by
  unfold failAtPiece; dsimp only; split <;> simp [h]

@[simp] theorem failAtPiece_map {k0 : ResidencyMap} {s : State} (c : CtxId) (p : Port) (q : Piece)
    (st : PieceStatus) (h : MapKept k0 s.map) :
    MapKept k0 ((failAtPiece c p q st s).1).map := by
  unfold failAtPiece; dsimp only; split <;> simp [h]

@[simp] theorem failAtPiece_arbiter {k0 : Arbiter} {s : State} (c : CtxId) (p : Port) (q : Piece) (st : PieceStatus)
    (h : QueuesKept k0 s.arbiter) :
    QueuesKept k0 ((failAtPiece c p q st s).1).arbiter := by
  unfold failAtPiece; dsimp only; split <;> simp [h]

@[simp] theorem applyPiece_map {k0 : ResidencyMap} {s : State} (x : Context) (q : Piece) (h : MapKept k0 s.map) :
    MapKept k0 (applyPiece x q s).map := by
  unfold applyPiece; dsimp only; split <;> simp [h]

@[simp] theorem leaveFlushPhase_map {k0 : ResidencyMap} {s : State} (x : Context) (h : MapKept k0 s.map) :
    MapKept k0 (leaveFlushPhase x s).map := by
  unfold leaveFlushPhase; split <;> simp [h]

@[simp] theorem evictCheck_sup {k0 : Supervision} {s : State} (c : CtxId) (x : Context) (h : SupKept k0 s.sup) :
    SupKept k0 ((evictCheck c x s).1).sup := by
  unfold evictCheck; dsimp only; split <;> simp [h]

@[simp] theorem evictCheck_map {k0 : ResidencyMap} {s : State} (c : CtxId) (x : Context) (h : MapKept k0 s.map) :
    MapKept k0 ((evictCheck c x s).1).map := by
  unfold evictCheck; dsimp only; split <;> simp [h]

@[simp] theorem evictCheck_arbiter {k0 : Arbiter} {s : State} (c : CtxId) (x : Context) (h : QueuesKept k0 s.arbiter) :
    QueuesKept k0 ((evictCheck c x s).1).arbiter := by
  unfold evictCheck; dsimp only; split <;> simp [h]

@[simp] theorem issuePiece_sup {k0 : Supervision} {s : State} (c : CtxId) (q : PieceSpec) (x y : Context)
    (h : SupKept k0 s.sup) :
    SupKept k0 ((issuePiece c q x y s).1).sup := by
  unfold issuePiece; dsimp only; (repeat' split) <;> simp [h]

@[simp] theorem issuePiece_map {k0 : ResidencyMap} {s : State} (c : CtxId) (q : PieceSpec) (x y : Context)
    (h : MapKept k0 s.map) :
    MapKept k0 ((issuePiece c q x y s).1).map := by
  unfold issuePiece; dsimp only; (repeat' split) <;> simp [h]

@[simp] theorem issuePiece_arbiter {k0 : Arbiter} {s : State} (c : CtxId) (q : PieceSpec) (x y : Context)
    (h : QueuesKept k0 s.arbiter) :
    QueuesKept k0 ((issuePiece c q x y s).1).arbiter := by
  unfold issuePiece; dsimp only; (repeat' split) <;> simp [h]

@[simp] theorem issuePiece_flash {k0 : PortUnit} {s : State} (c : CtxId) (q : PieceSpec) (x y : Context)
    (h : PortKept k0 s.flash) :
    PortKept k0 ((issuePiece c q x y s).1).flash := by
  unfold issuePiece; dsimp only; (repeat' split) <;> simp [h]

@[simp] theorem issuePiece_disk {k0 : PortUnit} {s : State} (c : CtxId) (q : PieceSpec) (x y : Context)
    (h : PortKept k0 s.disk) :
    PortKept k0 ((issuePiece c q x y s).1).disk := by
  unfold issuePiece; dsimp only; (repeat' split) <;> simp [h]

@[simp] theorem advance_sup {k0 : Supervision} {s : State} (c : CtxId) (h : SupKept k0 s.sup) :
    SupKept k0 ((advance c s).1).sup := by
  unfold advance; (repeat' split) <;> simp [h]

@[simp] theorem advance_map {k0 : ResidencyMap} {s : State} (c : CtxId) (h : MapKept k0 s.map) :
    MapKept k0 ((advance c s).1).map := by
  unfold advance; (repeat' split) <;> simp [h]

@[simp] theorem advance_arbiter {k0 : Arbiter} {s : State} (c : CtxId) (h : QueuesKept k0 s.arbiter) :
    QueuesKept k0 ((advance c s).1).arbiter := by
  unfold advance; (repeat' split) <;> simp [h]

@[simp] theorem advance_flash {k0 : PortUnit} {s : State} (c : CtxId) (h : PortKept k0 s.flash) :
    PortKept k0 ((advance c s).1).flash := by
  unfold advance; (repeat' split) <;> simp [h]

@[simp] theorem advance_disk {k0 : PortUnit} {s : State} (c : CtxId) (h : PortKept k0 s.disk) :
    PortKept k0 ((advance c s).1).disk := by
  unfold advance; (repeat' split) <;> simp [h]

@[simp] theorem settleSuspending_sup {k0 : Supervision} {s : State} (c : CtxId) (x : Context) (h : SupKept k0 s.sup) :
    SupKept k0 ((settleSuspending c x s).1).sup := by
  unfold settleSuspending; (repeat' split) <;> simp [h]

@[simp] theorem settleSuspending_map {k0 : ResidencyMap} {s : State} (c : CtxId) (x : Context) (h : MapKept k0 s.map) :
    MapKept k0 ((settleSuspending c x s).1).map := by
  unfold settleSuspending; (repeat' split) <;> simp [h]

@[simp] theorem settleSuspending_arbiter {k0 : Arbiter} {s : State} (c : CtxId) (x : Context)
    (h : QueuesKept k0 s.arbiter) :
    QueuesKept k0 ((settleSuspending c x s).1).arbiter := by
  unfold settleSuspending; (repeat' split) <;> simp [h]

@[simp] theorem passPiece_sup {k0 : Supervision} {s : State} (c : CtxId) (q : Piece) (h : SupKept k0 s.sup) :
    SupKept k0 ((passPiece c q s).1).sup := by
  unfold passPiece; dsimp only; (repeat' split) <;> simp [h]

@[simp] theorem passPiece_map {k0 : ResidencyMap} {s : State} (c : CtxId) (q : Piece) (h : MapKept k0 s.map) :
    MapKept k0 ((passPiece c q s).1).map := by
  unfold passPiece; dsimp only; (repeat' split) <;> simp (maxDischargeDepth := 12) [h]

@[simp] theorem passPiece_arbiter {k0 : Arbiter} {s : State} (c : CtxId) (q : Piece) (h : QueuesKept k0 s.arbiter) :
    QueuesKept k0 ((passPiece c q s).1).arbiter := by
  unfold passPiece; dsimp only; (repeat' split) <;> simp [h]

@[simp] theorem passPiece_flash {k0 : PortUnit} {s : State} (c : CtxId) (q : Piece) (h : PortKept k0 s.flash) :
    PortKept k0 ((passPiece c q s).1).flash := by
  unfold passPiece; dsimp only; (repeat' split) <;> simp [h]

@[simp] theorem passPiece_disk {k0 : PortUnit} {s : State} (c : CtxId) (q : Piece) (h : PortKept k0 s.disk) :
    PortKept k0 ((passPiece c q s).1).disk := by
  unfold passPiece; dsimp only; (repeat' split) <;> simp [h]

@[simp] theorem moverTake_sup {k0 : Supervision} {s : State} (c : CtxId) (p : Port) (q : Piece) (st : PieceStatus)
    (h : SupKept k0 s.sup) :
    SupKept k0 ((moverTake c p q st s).1).sup := by
  unfold moverTake; split <;> simp [h]

@[simp] theorem moverTake_map {k0 : ResidencyMap} {s : State} (c : CtxId) (p : Port) (q : Piece) (st : PieceStatus)
    (h : MapKept k0 s.map) :
    MapKept k0 ((moverTake c p q st s).1).map := by
  unfold moverTake; split <;> simp [h]

@[simp] theorem moverTake_arbiter {k0 : Arbiter} {s : State} (c : CtxId) (p : Port) (q : Piece) (st : PieceStatus)
    (h : QueuesKept k0 s.arbiter) :
    QueuesKept k0 ((moverTake c p q st s).1).arbiter := by
  unfold moverTake; split <;> simp [h]

@[simp] theorem moverTake_flash {k0 : PortUnit} {s : State} (c : CtxId) (p : Port) (q : Piece) (st : PieceStatus)
    (h : PortKept k0 s.flash) :
    PortKept k0 ((moverTake c p q st s).1).flash := by
  unfold moverTake; split <;> simp [h]

@[simp] theorem moverTake_disk {k0 : PortUnit} {s : State} (c : CtxId) (p : Port) (q : Piece) (st : PieceStatus)
    (h : PortKept k0 s.disk) :
    PortKept k0 ((moverTake c p q st s).1).disk := by
  unfold moverTake; split <;> simp [h]

@[simp] theorem takeFillSlot_sup {k0 : Supervision} {s : State} (c : CtxId) (x : Context) (i : Nat) (r : SlotRec)
    (h : SupKept k0 s.sup) :
    SupKept k0 ((takeFillSlot c x i r s).1).sup := by
  simp [takeFillSlot, h]

@[simp] theorem takeFillSlot_map {k0 : ResidencyMap} {s : State} (c : CtxId) (x : Context) (i : Nat) (r : SlotRec)
    (h : MapKept k0 s.map) :
    MapKept k0 ((takeFillSlot c x i r s).1).map := by
  simp [takeFillSlot, h]

@[simp] theorem takeFillSlot_arbiter {k0 : Arbiter} {s : State} (c : CtxId) (x : Context) (i : Nat) (r : SlotRec)
    (h : QueuesKept k0 s.arbiter) :
    QueuesKept k0 ((takeFillSlot c x i r s).1).arbiter := by
  simp [takeFillSlot, h]

@[simp] theorem takeFillSlot_flash {k0 : PortUnit} {s : State} (c : CtxId) (x : Context) (i : Nat) (r : SlotRec)
    (h : PortKept k0 s.flash) :
    PortKept k0 ((takeFillSlot c x i r s).1).flash := by
  simp [takeFillSlot, h]

@[simp] theorem takeFillSlot_disk {k0 : PortUnit} {s : State} (c : CtxId) (x : Context) (i : Nat) (r : SlotRec)
    (h : PortKept k0 s.disk) :
    PortKept k0 ((takeFillSlot c x i r s).1).disk := by
  simp [takeFillSlot, h]

@[simp] theorem startFill_sup {k0 : Supervision} {s : State} (c : CtxId) (x : Context) (h : SupKept k0 s.sup) :
    SupKept k0 ((startFill c x s).1).sup := by
  unfold startFill; dsimp only; (repeat' split) <;> simp [h]

@[simp] theorem startFill_map {k0 : ResidencyMap} {s : State} (c : CtxId) (x : Context) (h : MapKept k0 s.map) :
    MapKept k0 ((startFill c x s).1).map := by
  unfold startFill; dsimp only; (repeat' split) <;> simp [h]

@[simp] theorem startFill_arbiter {k0 : Arbiter} {s : State} (c : CtxId) (x : Context) (h : QueuesKept k0 s.arbiter) :
    QueuesKept k0 ((startFill c x s).1).arbiter := by
  unfold startFill; dsimp only; (repeat' split) <;> simp [h]

@[simp] theorem startFill_flash {k0 : PortUnit} {s : State} (c : CtxId) (x : Context) (h : PortKept k0 s.flash) :
    PortKept k0 ((startFill c x s).1).flash := by
  unfold startFill; dsimp only; (repeat' split) <;> simp [h]

@[simp] theorem startFill_disk {k0 : PortUnit} {s : State} (c : CtxId) (x : Context) (h : PortKept k0 s.disk) :
    PortKept k0 ((startFill c x s).1).disk := by
  unfold startFill; dsimp only; (repeat' split) <;> simp [h]

@[simp] theorem startFlush_sup {k0 : Supervision} {s : State} (c : CtxId) (x : Context) (i : Nat)
    (h : SupKept k0 s.sup) :
    SupKept k0 ((startFlush c x i s).1).sup := by
  unfold startFlush; dsimp only; (repeat' split) <;> simp [h]

@[simp] theorem startFlush_map {k0 : ResidencyMap} {s : State} (c : CtxId) (x : Context) (i : Nat)
    (h : MapKept k0 s.map) :
    MapKept k0 ((startFlush c x i s).1).map := by
  unfold startFlush; dsimp only; (repeat' split) <;> simp [h]

@[simp] theorem startFlush_arbiter {k0 : Arbiter} {s : State} (c : CtxId) (x : Context) (i : Nat)
    (h : QueuesKept k0 s.arbiter) :
    QueuesKept k0 ((startFlush c x i s).1).arbiter := by
  unfold startFlush; dsimp only; (repeat' split) <;> simp [h]

@[simp] theorem startFlush_flash {k0 : PortUnit} {s : State} (c : CtxId) (x : Context) (i : Nat)
    (h : PortKept k0 s.flash) :
    PortKept k0 ((startFlush c x i s).1).flash := by
  unfold startFlush; dsimp only; (repeat' split) <;> simp [h]

@[simp] theorem startFlush_disk {k0 : PortUnit} {s : State} (c : CtxId) (x : Context) (i : Nat)
    (h : PortKept k0 s.disk) :
    PortKept k0 ((startFlush c x i s).1).disk := by
  unfold startFlush; dsimp only; (repeat' split) <;> simp [h]

@[simp] theorem startJob_sup {k0 : Supervision} {s : State} (c : CtxId) (h : SupKept k0 s.sup) :
    SupKept k0 ((startJob c s).1).sup := by
  unfold startJob; (repeat' split) <;> simp [h]

@[simp] theorem startJob_map {k0 : ResidencyMap} {s : State} (c : CtxId) (h : MapKept k0 s.map) :
    MapKept k0 ((startJob c s).1).map := by
  unfold startJob; (repeat' split) <;> simp [h]

@[simp] theorem startJob_arbiter {k0 : Arbiter} {s : State} (c : CtxId) (h : QueuesKept k0 s.arbiter) :
    QueuesKept k0 ((startJob c s).1).arbiter := by
  unfold startJob; (repeat' split) <;> simp [h]

@[simp] theorem startJob_flash {k0 : PortUnit} {s : State} (c : CtxId) (h : PortKept k0 s.flash) :
    PortKept k0 ((startJob c s).1).flash := by
  unfold startJob; (repeat' split) <;> simp [h]

@[simp] theorem startJob_disk {k0 : PortUnit} {s : State} (c : CtxId) (h : PortKept k0 s.disk) :
    PortKept k0 ((startJob c s).1).disk := by
  unfold startJob; (repeat' split) <;> simp [h]

@[simp] theorem follow_sup {k0 : Supervision} {s : State} (f : Follow) (h : SupKept k0 s.sup) :
    SupKept k0 ((follow f s).1).sup := by
  unfold follow; split <;> simp [h]

@[simp] theorem follow_map {k0 : ResidencyMap} {s : State} (f : Follow) (h : MapKept k0 s.map) :
    MapKept k0 ((follow f s).1).map := by
  unfold follow; split <;> simp [h]

@[simp] theorem follow_arbiter {k0 : Arbiter} {s : State} (f : Follow) (h : QueuesKept k0 s.arbiter) :
    QueuesKept k0 ((follow f s).1).arbiter := by
  unfold follow; split <;> simp [h]

@[simp] theorem follow_flash {k0 : PortUnit} {s : State} (f : Follow) (h : PortKept k0 s.flash) :
    PortKept k0 ((follow f s).1).flash := by
  unfold follow; split <;> simp [h]

@[simp] theorem follow_disk {k0 : PortUnit} {s : State} (f : Follow) (h : PortKept k0 s.disk) :
    PortKept k0 ((follow f s).1).disk := by
  unfold follow; split <;> simp [h]

@[simp] theorem runMover_sup {k0 : Supervision} {p : State × Option Follow} (n : Nat) (h : SupKept k0 p.1.sup) :
    SupKept k0 (runMover n p).sup := by
  induction n generalizing p with
  | zero => simp [h, runMover]
  | succ n ih =>
    obtain ⟨u, f⟩ := p
    cases f with
    | none => simp [h, runMover]
    | some f => simp [h, runMover, ih]

@[simp] theorem runMover_map {k0 : ResidencyMap} {p : State × Option Follow} (n : Nat) (h : MapKept k0 p.1.map) :
    MapKept k0 (runMover n p).map := by
  induction n generalizing p with
  | zero => simp [h, runMover]
  | succ n ih =>
    obtain ⟨u, f⟩ := p
    cases f with
    | none => simp [h, runMover]
    | some f => simp [h, runMover, ih]

@[simp] theorem runMover_arbiter {k0 : Arbiter} {p : State × Option Follow} (n : Nat) (h : QueuesKept k0 p.1.arbiter) :
    QueuesKept k0 (runMover n p).arbiter := by
  induction n generalizing p with
  | zero => simp [h, runMover]
  | succ n ih =>
    obtain ⟨u, f⟩ := p
    cases f with
    | none => simp [h, runMover]
    | some f => simp [h, runMover, ih]

@[simp] theorem runMover_flash {k0 : PortUnit} {p : State × Option Follow} (n : Nat) (h : PortKept k0 p.1.flash) :
    PortKept k0 (runMover n p).flash := by
  induction n generalizing p with
  | zero => simp [h, runMover]
  | succ n ih =>
    obtain ⟨u, f⟩ := p
    cases f with
    | none => simp [h, runMover]
    | some f => simp [h, runMover, ih]

@[simp] theorem runMover_disk {k0 : PortUnit} {p : State × Option Follow} (n : Nat) (h : PortKept k0 p.1.disk) :
    PortKept k0 (runMover n p).disk := by
  induction n generalizing p with
  | zero => simp [h, runMover]
  | succ n ih =>
    obtain ⟨u, f⟩ := p
    cases f with
    | none => simp [h, runMover]
    | some f => simp [h, runMover, ih]

@[simp] theorem leaveQueue_sup {k0 : Supervision} {s : State} (k : JobClass) (rest : List Job) (h : SupKept k0 s.sup) :
    SupKept k0 (leaveQueue k rest s).sup := by
  unfold leaveQueue; dsimp only; (repeat' split) <;> simp [h]

@[simp] theorem askToSuspend_arbiter {k0 : Arbiter} {s : State} (k : JobClass) (c : CtxId)
    (h : QueuesKept k0 s.arbiter) :
    QueuesKept k0 ((askToSuspend k c s).1).arbiter := by
  unfold askToSuspend; (repeat' split) <;> simp [h]

@[simp] theorem grant_sup {k0 : Supervision} {s : State} (k : JobClass) (h : SupKept k0 s.sup) :
    SupKept k0 ((grant k s).1).sup := by
  unfold grant; dsimp only; (repeat' split) <;> simp [h]

@[simp] theorem grant_disk {k0 : PortUnit} {s : State} (k : JobClass) (h : PortKept k0 s.disk) :
    PortKept k0 ((grant k s).1).disk := by
  unfold grant; dsimp only; (repeat' split) <;> simp [h]

@[simp] theorem deliver_sup {k0 : Supervision} {s : State} (p : Port) (b : List Piece) (x : Piece)
    (st : PieceStatus) (h : SupKept k0 s.sup) :
    SupKept k0 (deliver p b x st s).sup := by
  unfold deliver; split <;> simp [h]

@[simp] theorem deliver_map {k0 : ResidencyMap} {s : State} (p : Port) (b : List Piece) (x : Piece)
    (st : PieceStatus) (h : MapKept k0 s.map) :
    MapKept k0 (deliver p b x st s).map := by
  unfold deliver; split <;> simp [h]

@[simp] theorem deliver_link {k0 : Link} {s : State} (p : Port) (b : List Piece) (x : Piece) (st : PieceStatus)
    (h : LinkKept k0 s.link) :
    LinkKept k0 (deliver p b x st s).link := by
  unfold deliver; split <;> simp [h]

@[simp] theorem deliver_arbiter {k0 : Arbiter} {s : State} (p : Port) (b : List Piece) (x : Piece)
    (st : PieceStatus) (h : QueuesKept k0 s.arbiter) :
    QueuesKept k0 (deliver p b x st s).arbiter := by
  unfold deliver; split <;> simp [h]

@[simp] theorem deliver_flash {k0 : PortUnit} {s : State} (p : Port) (b : List Piece) (x : Piece) (st : PieceStatus)
    (h : PortKept k0 s.flash) :
    PortKept k0 (deliver p b x st s).flash := by
  unfold deliver; split <;> simp [h]

@[simp] theorem deliver_disk {k0 : PortUnit} {s : State} (p : Port) (b : List Piece) (x : Piece) (st : PieceStatus)
    (h : PortKept k0 s.disk) :
    PortKept k0 (deliver p b x st s).disk := by
  unfold deliver; split <;> simp [h]

@[simp] theorem modifyPiece_flash {k0 : PortUnit} {s : State} (p : Port) (id : Nat) (f : Piece → Piece)
    (h : PortKept k0 s.flash) :
    PortKept k0 (modifyPiece p id f s).flash := by
  cases p <;> simp [modifyPiece, setPort, State.port, h]

@[simp] theorem modifyPiece_disk {k0 : PortUnit} {s : State} (p : Port) (id : Nat) (f : Piece → Piece)
    (h : PortKept k0 s.disk) :
    PortKept k0 (modifyPiece p id f s).disk := by
  cases p <;> simp [modifyPiece, setPort, State.port, h]

@[simp] theorem setTimeouts_flash {k0 : PortUnit} {s : State} (p : Port) (n : Nat) (h : PortKept k0 s.flash) :
    PortKept k0 (setTimeouts p n s).flash := by
  cases p <;> simp [setTimeouts, setPort, State.port, h]

@[simp] theorem setTimeouts_disk {k0 : PortUnit} {s : State} (p : Port) (n : Nat) (h : PortKept k0 s.disk) :
    PortKept k0 (setTimeouts p n s).disk := by
  cases p <;> simp [setTimeouts, setPort, State.port, h]

@[simp] theorem withhold_flash {k0 : PortUnit} {s : State} (p : Port) (id : Nat) (h : PortKept k0 s.flash) :
    PortKept k0 (withhold p id s).flash := by
  cases p <;> simp [withhold, setPort, State.port, h]

@[simp] theorem withhold_disk {k0 : PortUnit} {s : State} (p : Port) (id : Nat) (h : PortKept k0 s.disk) :
    PortKept k0 (withhold p id s).disk := by
  cases p <;> simp [withhold, setPort, State.port, h]

@[simp] theorem completePiece_sup {k0 : Supervision} {s : State} (p : Port) (id : Nat) (st : PieceStatus)
    (h : SupKept k0 s.sup) :
    SupKept k0 (completePiece p id st s).sup := by
  unfold completePiece; split <;> simp [h]

@[simp] theorem completePiece_map {k0 : ResidencyMap} {s : State} (p : Port) (id : Nat) (st : PieceStatus)
    (h : MapKept k0 s.map) :
    MapKept k0 (completePiece p id st s).map := by
  unfold completePiece; split <;> simp [h]

@[simp] theorem completePiece_link {k0 : Link} {s : State} (p : Port) (id : Nat) (st : PieceStatus)
    (h : LinkKept k0 s.link) :
    LinkKept k0 (completePiece p id st s).link := by
  unfold completePiece; split <;> simp [h]

@[simp] theorem completePiece_arbiter {k0 : Arbiter} {s : State} (p : Port) (id : Nat) (st : PieceStatus)
    (h : QueuesKept k0 s.arbiter) :
    QueuesKept k0 (completePiece p id st s).arbiter := by
  unfold completePiece; split <;> simp [h]

@[simp] theorem completePiece_flash {k0 : PortUnit} {s : State} (p : Port) (id : Nat) (st : PieceStatus)
    (h : PortKept k0 s.flash) :
    PortKept k0 (completePiece p id st s).flash := by
  unfold completePiece; split
  · refine deliver_flash p _ _ st ?_; cases p <;> simp [setPort, State.port, h]
  · exact h

@[simp] theorem completePiece_disk {k0 : PortUnit} {s : State} (p : Port) (id : Nat) (st : PieceStatus)
    (h : PortKept k0 s.disk) :
    PortKept k0 (completePiece p id st s).disk := by
  unfold completePiece; split
  · refine deliver_disk p _ _ st ?_; cases p <;> simp [setPort, State.port, h]
  · exact h

@[simp] theorem forcePiece_sup {k0 : Supervision} {s : State} (p : Port) (id : Nat) (h : SupKept k0 s.sup) :
    SupKept k0 (forcePiece p s id).sup := by
  unfold forcePiece; split
  · split <;> simp [h]
  · simp [h]

@[simp] theorem forcePiece_map {k0 : ResidencyMap} {s : State} (p : Port) (id : Nat) (h : MapKept k0 s.map) :
    MapKept k0 (forcePiece p s id).map := by
  unfold forcePiece; split
  · split <;> simp [h]
  · simp [h]

@[simp] theorem forcePiece_link {k0 : Link} {s : State} (p : Port) (id : Nat) (h : LinkKept k0 s.link) :
    LinkKept k0 (forcePiece p s id).link := by
  unfold forcePiece; split
  · split <;> simp [h]
  · simp [h]

@[simp] theorem forcePiece_arbiter {k0 : Arbiter} {s : State} (p : Port) (id : Nat) (h : QueuesKept k0 s.arbiter) :
    QueuesKept k0 (forcePiece p s id).arbiter := by
  unfold forcePiece; split
  · split <;> simp [h]
  · simp [h]

@[simp] theorem forcePiece_flash {k0 : PortUnit} {s : State} (p : Port) (id : Nat) (h : PortKept k0 s.flash) :
    PortKept k0 (forcePiece p s id).flash := by
  unfold forcePiece; split
  · split <;> simp [h]
  · simp [h]

@[simp] theorem forcePiece_disk {k0 : PortUnit} {s : State} (p : Port) (id : Nat) (h : PortKept k0 s.disk) :
    PortKept k0 (forcePiece p s id).disk := by
  unfold forcePiece; split
  · split <;> simp [h]
  · simp [h]

@[simp] theorem forceWhere_sup {k0 : Supervision} {s : State} (p : Port) (f : Piece → Bool) (h : SupKept k0 s.sup) :
    SupKept k0 (forceWhere p f s).sup := by
  unfold forceWhere
  exact foldl_invariant (fun u : State => SupKept k0 u.sup) _ (fun u x hu => by simp [hu]) _ _ h

@[simp] theorem forceWhere_map {k0 : ResidencyMap} {s : State} (p : Port) (f : Piece → Bool) (h : MapKept k0 s.map) :
    MapKept k0 (forceWhere p f s).map := by
  unfold forceWhere
  exact foldl_invariant (fun u : State => MapKept k0 u.map) _ (fun u x hu => by simp [hu]) _ _ h

@[simp] theorem forceWhere_link {k0 : Link} {s : State} (p : Port) (f : Piece → Bool) (h : LinkKept k0 s.link) :
    LinkKept k0 (forceWhere p f s).link := by
  unfold forceWhere
  exact foldl_invariant (fun u : State => LinkKept k0 u.link) _ (fun u x hu => by simp [hu]) _ _ h

@[simp] theorem forceWhere_arbiter {k0 : Arbiter} {s : State} (p : Port) (f : Piece → Bool)
    (h : QueuesKept k0 s.arbiter) :
    QueuesKept k0 (forceWhere p f s).arbiter := by
  unfold forceWhere
  exact foldl_invariant (fun u : State => QueuesKept k0 u.arbiter) _ (fun u x hu => by simp [hu]) _ _ h

@[simp] theorem forceWhere_flash {k0 : PortUnit} {s : State} (p : Port) (f : Piece → Bool) (h : PortKept k0 s.flash) :
    PortKept k0 (forceWhere p f s).flash := by
  unfold forceWhere
  exact foldl_invariant (fun u : State => PortKept k0 u.flash) _ (fun u x hu => by simp [hu]) _ _ h

@[simp] theorem forceWhere_disk {k0 : PortUnit} {s : State} (p : Port) (f : Piece → Bool) (h : PortKept k0 s.disk) :
    PortKept k0 (forceWhere p f s).disk := by
  unfold forceWhere
  exact foldl_invariant (fun u : State => PortKept k0 u.disk) _ (fun u x hu => by simp [hu]) _ _ h

@[simp] theorem setMode_sup {k0 : Supervision} {s : State} (m : Mode) (h : SupKept k0 s.sup) :
    SupKept k0 (setMode m s).sup := by
  simp [setMode, h]

@[simp] theorem enterOnline_sup {k0 : Supervision} {s : State} (h : SupKept k0 s.sup) :
    SupKept k0 (enterOnline s).sup := by
  simp [enterOnline, h]

@[simp] theorem enterFlashLost_sup {k0 : Supervision} {s : State} (h : SupKept k0 s.sup) :
    SupKept k0 (enterFlashLost s).sup := by
  simp [enterFlashLost, h]

@[simp] theorem noteStopped_link {k0 : Link} {s : State} (ph : SpinDownPhase) (h : LinkKept k0 s.link) :
    LinkKept k0 (noteStopped ph s).link := by
  unfold noteStopped; dsimp only; split <;> simp [h]

@[simp] theorem markStartFailed_sup {k0 : Supervision} {s : State} (h : SupKept k0 s.sup) :
    SupKept k0 (markStartFailed s).sup := by
  simp [markStartFailed, h]

@[simp] theorem failStart_sup {k0 : Supervision} {s : State} (h : SupKept k0 s.sup) :
    SupKept k0 (failStart s).sup := by
  simp [failStart, h]

@[simp] theorem failStart_map {k0 : ResidencyMap} {s : State} (h : MapKept k0 s.map) :
    MapKept k0 (failStart s).map := by
  simp [failStart, h]

@[simp] theorem failStart_link {k0 : Link} {s : State} (h : LinkKept k0 s.link) :
    LinkKept k0 (failStart s).link := by
  simp [failStart, h]

@[simp] theorem failStart_arbiter {k0 : Arbiter} {s : State} (h : QueuesKept k0 s.arbiter) :
    QueuesKept k0 (failStart s).arbiter := by
  simp [failStart, h]

@[simp] theorem failStart_flash {k0 : PortUnit} {s : State} (h : PortKept k0 s.flash) :
    PortKept k0 (failStart s).flash := by
  simp [failStart, h]

@[simp] theorem failStart_disk {k0 : PortUnit} {s : State} (h : PortKept k0 s.disk) :
    PortKept k0 (failStart s).disk := by
  simp [failStart, h]

@[simp] theorem finishStop_link {k0 : Link} {s : State} (h : LinkKept k0 s.link) :
    LinkKept k0 (finishStop s).link := by
  unfold finishStop; dsimp only; split <;> simp [h]

@[simp] theorem finishStop_disk {k0 : PortUnit} {s : State} (h : PortKept k0 s.disk) :
    PortKept k0 (finishStop s).disk := by
  unfold finishStop; dsimp only; split <;> simp [h]

@[simp] theorem takeCaughtAborted_sup {k0 : Supervision} {s : State} (id : Nat) (h : SupKept k0 s.sup) :
    SupKept k0 (takeCaughtAborted s id).sup := by
  unfold takeCaughtAborted; (repeat' split) <;> simp [h]

@[simp] theorem takeCaughtAborted_map {k0 : ResidencyMap} {s : State} (id : Nat) (h : MapKept k0 s.map) :
    MapKept k0 (takeCaughtAborted s id).map := by
  unfold takeCaughtAborted; (repeat' split) <;> simp [h]

@[simp] theorem takeCaughtAborted_link {k0 : Link} {s : State} (id : Nat) (h : LinkKept k0 s.link) :
    LinkKept k0 (takeCaughtAborted s id).link := by
  unfold takeCaughtAborted; (repeat' split) <;> simp [h]

@[simp] theorem takeCaughtAborted_arbiter {k0 : Arbiter} {s : State} (id : Nat) (h : QueuesKept k0 s.arbiter) :
    QueuesKept k0 (takeCaughtAborted s id).arbiter := by
  unfold takeCaughtAborted; (repeat' split) <;> simp [h]

@[simp] theorem takeCaughtAborted_flash {k0 : PortUnit} {s : State} (id : Nat) (h : PortKept k0 s.flash) :
    PortKept k0 (takeCaughtAborted s id).flash := by
  unfold takeCaughtAborted; (repeat' split) <;> simp [h]

@[simp] theorem takeCaughtAborted_disk {k0 : PortUnit} {s : State} (id : Nat) (h : PortKept k0 s.disk) :
    PortKept k0 (takeCaughtAborted s id).disk := by
  unfold takeCaughtAborted; (repeat' split) <;> simp [h]

@[simp] theorem enterRunning_flash {k0 : PortUnit} {s : State} (h : PortKept k0 s.flash) :
    PortKept k0 (enterRunning s).flash := by
  simp [enterRunning, h]

@[simp] theorem enterRunning_disk {k0 : PortUnit} {s : State} (h : PortKept k0 s.disk) :
    PortKept k0 (enterRunning s).disk := by
  simp [enterRunning, h]

@[simp] theorem foldl_takeCaughtAborted_sup {k0 : Supervision} {s : State} (l : List Nat) (h : SupKept k0 s.sup) :
    SupKept k0 (l.foldl takeCaughtAborted s).sup := by
  exact foldl_invariant (fun u : State => SupKept k0 u.sup) _ (fun u x hu => by simp [hu]) _ _ h

@[simp] theorem foldl_takeCaughtAborted_map {k0 : ResidencyMap} {s : State} (l : List Nat) (h : MapKept k0 s.map) :
    MapKept k0 (l.foldl takeCaughtAborted s).map := by
  exact foldl_invariant (fun u : State => MapKept k0 u.map) _ (fun u x hu => by simp [hu]) _ _ h

@[simp] theorem foldl_takeCaughtAborted_link {k0 : Link} {s : State} (l : List Nat) (h : LinkKept k0 s.link) :
    LinkKept k0 (l.foldl takeCaughtAborted s).link := by
  exact foldl_invariant (fun u : State => LinkKept k0 u.link) _ (fun u x hu => by simp [hu]) _ _ h

@[simp] theorem foldl_takeCaughtAborted_arbiter {k0 : Arbiter} {s : State} (l : List Nat)
    (h : QueuesKept k0 s.arbiter) :
    QueuesKept k0 (l.foldl takeCaughtAborted s).arbiter := by
  exact foldl_invariant (fun u : State => QueuesKept k0 u.arbiter) _ (fun u x hu => by simp [hu]) _ _ h

@[simp] theorem foldl_takeCaughtAborted_flash {k0 : PortUnit} {s : State} (l : List Nat) (h : PortKept k0 s.flash) :
    PortKept k0 (l.foldl takeCaughtAborted s).flash := by
  exact foldl_invariant (fun u : State => PortKept k0 u.flash) _ (fun u x hu => by simp [hu]) _ _ h

@[simp] theorem foldl_takeCaughtAborted_disk {k0 : PortUnit} {s : State} (l : List Nat) (h : PortKept k0 s.disk) :
    PortKept k0 (l.foldl takeCaughtAborted s).disk := by
  exact foldl_invariant (fun u : State => PortKept k0 u.disk) _ (fun u x hu => by simp [hu]) _ _ h

@[simp] theorem finishStart_sup {k0 : Supervision} {s : State} (h : SupKept k0 s.sup) :
    SupKept k0 (finishStart s).sup := by
  simp [finishStart, h]

@[simp] theorem finishStart_map {k0 : ResidencyMap} {s : State} (h : MapKept k0 s.map) :
    MapKept k0 (finishStart s).map := by
  simp [finishStart, h]

@[simp] theorem finishStart_link {k0 : Link} {s : State} (h : LinkKept k0 s.link) :
    LinkKept k0 (finishStart s).link := by
  simp [finishStart, h]

@[simp] theorem finishStart_arbiter {k0 : Arbiter} {s : State} (h : QueuesKept k0 s.arbiter) :
    QueuesKept k0 (finishStart s).arbiter := by
  simp [finishStart, h]

@[simp] theorem finishStart_flash {k0 : PortUnit} {s : State} (h : PortKept k0 s.flash) :
    PortKept k0 (finishStart s).flash := by
  simp [finishStart, h]

@[simp] theorem finishStart_disk {k0 : PortUnit} {s : State} (h : PortKept k0 s.disk) :
    PortKept k0 (finishStart s).disk := by
  simp [finishStart, h]

@[simp] theorem faultSpindle_sup {k0 : Supervision} {s : State} (h : SupKept k0 s.sup) :
    SupKept k0 (faultSpindle s).sup := by
  unfold faultSpindle; dsimp only; split <;> simp [h]

@[simp] theorem faultSpindle_link {k0 : Link} {s : State} (h : LinkKept k0 s.link) :
    LinkKept k0 (faultSpindle s).link := by
  unfold faultSpindle; dsimp only; split <;> simp [h]

@[simp] theorem faultPort_sup {k0 : Supervision} {s : State} (p : Port) (h : SupKept k0 s.sup) :
    SupKept k0 (faultPort p s).sup := by
  unfold faultPort; dsimp only; (repeat' split) <;> simp (maxDischargeDepth := 12) [h]

@[simp] theorem faultPort_map {k0 : ResidencyMap} {s : State} (p : Port) (h : MapKept k0 s.map) :
    MapKept k0 (faultPort p s).map := by
  unfold faultPort; dsimp only; (repeat' split) <;> simp [h]

@[simp] theorem faultPort_link {k0 : Link} {s : State} (p : Port) (h : LinkKept k0 s.link) :
    LinkKept k0 (faultPort p s).link := by
  unfold faultPort; dsimp only; (repeat' split) <;> simp [h]

@[simp] theorem faultPort_arbiter {k0 : Arbiter} {s : State} (p : Port) (h : QueuesKept k0 s.arbiter) :
    QueuesKept k0 (faultPort p s).arbiter := by
  unfold faultPort; dsimp only; (repeat' split) <;> simp [h]

@[simp] theorem countTimeout_sup {k0 : Supervision} {s : State} (p : Port) (h : SupKept k0 s.sup) :
    SupKept k0 (countTimeout p s).sup := by
  unfold countTimeout; split <;> simp [h]

@[simp] theorem countTimeout_map {k0 : ResidencyMap} {s : State} (p : Port) (h : MapKept k0 s.map) :
    MapKept k0 (countTimeout p s).map := by
  unfold countTimeout; split <;> simp [h]

@[simp] theorem countTimeout_link {k0 : Link} {s : State} (p : Port) (h : LinkKept k0 s.link) :
    LinkKept k0 (countTimeout p s).link := by
  unfold countTimeout; split <;> simp [h]

@[simp] theorem countTimeout_arbiter {k0 : Arbiter} {s : State} (p : Port) (h : QueuesKept k0 s.arbiter) :
    QueuesKept k0 (countTimeout p s).arbiter := by
  unfold countTimeout; split <;> simp [h]

@[simp] theorem ownerAbort_sup {k0 : Supervision} {s : State} (p : Port) (id : Nat) (h : SupKept k0 s.sup) :
    SupKept k0 (ownerAbort p id s).sup := by
  unfold ownerAbort; (repeat' split) <;> simp [h]

@[simp] theorem ownerAbort_map {k0 : ResidencyMap} {s : State} (p : Port) (id : Nat) (h : MapKept k0 s.map) :
    MapKept k0 (ownerAbort p id s).map := by
  unfold ownerAbort; (repeat' split) <;> simp [h]

@[simp] theorem ownerAbort_link {k0 : Link} {s : State} (p : Port) (id : Nat) (h : LinkKept k0 s.link) :
    LinkKept k0 (ownerAbort p id s).link := by
  unfold ownerAbort; (repeat' split) <;> simp [h]

@[simp] theorem ownerAbort_arbiter {k0 : Arbiter} {s : State} (p : Port) (id : Nat) (h : QueuesKept k0 s.arbiter) :
    QueuesKept k0 (ownerAbort p id s).arbiter := by
  unfold ownerAbort; (repeat' split) <;> simp [h]

@[simp] theorem ownerAbort_flash {k0 : PortUnit} {s : State} (p : Port) (id : Nat) (h : PortKept k0 s.flash) :
    PortKept k0 (ownerAbort p id s).flash := by
  unfold ownerAbort; (repeat' split) <;> simp [h]

@[simp] theorem ownerAbort_disk {k0 : PortUnit} {s : State} (p : Port) (id : Nat) (h : PortKept k0 s.disk) :
    PortKept k0 (ownerAbort p id s).disk := by
  unfold ownerAbort; (repeat' split) <;> simp [h]

@[simp] theorem abortJob_sup {k0 : Supervision} {s : State} (a : AbortCause) (c : CtxId) (h : SupKept k0 s.sup) :
    SupKept k0 (abortJob a c s).sup := by
  unfold abortJob; dsimp only; (repeat' split) <;> simp [h]

@[simp] theorem abortJob_map {k0 : ResidencyMap} {s : State} (a : AbortCause) (c : CtxId) (h : MapKept k0 s.map) :
    MapKept k0 (abortJob a c s).map := by
  unfold abortJob; dsimp only; (repeat' split) <;> simp [h]

@[simp] theorem abortJob_link {k0 : Link} {s : State} (a : AbortCause) (c : CtxId) (h : LinkKept k0 s.link) :
    LinkKept k0 (abortJob a c s).link := by
  unfold abortJob; dsimp only; (repeat' split) <;> simp [h]

@[simp] theorem abortJob_arbiter {k0 : Arbiter} {s : State} (a : AbortCause) (c : CtxId) (h : QueuesKept k0 s.arbiter) :
    QueuesKept k0 (abortJob a c s).arbiter := by
  unfold abortJob; dsimp only; (repeat' split) <;> simp [h]

@[simp] theorem abortJob_flash {k0 : PortUnit} {s : State} (a : AbortCause) (c : CtxId) (h : PortKept k0 s.flash) :
    PortKept k0 (abortJob a c s).flash := by
  unfold abortJob; dsimp only; (repeat' split) <;> simp [h]

@[simp] theorem abortJob_disk {k0 : PortUnit} {s : State} (a : AbortCause) (c : CtxId) (h : PortKept k0 s.disk) :
    PortKept k0 (abortJob a c s).disk := by
  unfold abortJob; dsimp only; (repeat' split) <;> simp [h]

@[simp] theorem foldl_abortJob_sup {k0 : Supervision} {s : State} (a : AbortCause) (l : List CtxId)
    (h : SupKept k0 s.sup) :
    SupKept k0 (l.foldl (fun u c => abortJob a c u) s).sup := by
  exact foldl_invariant (fun u : State => SupKept k0 u.sup) _ (fun u x hu => by simp [hu]) _ _ h

@[simp] theorem foldl_abortJob_map {k0 : ResidencyMap} {s : State} (a : AbortCause) (l : List CtxId)
    (h : MapKept k0 s.map) :
    MapKept k0 (l.foldl (fun u c => abortJob a c u) s).map := by
  exact foldl_invariant (fun u : State => MapKept k0 u.map) _ (fun u x hu => by simp [hu]) _ _ h

@[simp] theorem foldl_abortJob_link {k0 : Link} {s : State} (a : AbortCause) (l : List CtxId) (h : LinkKept k0 s.link) :
    LinkKept k0 (l.foldl (fun u c => abortJob a c u) s).link := by
  exact foldl_invariant (fun u : State => LinkKept k0 u.link) _ (fun u x hu => by simp [hu]) _ _ h

@[simp] theorem foldl_abortJob_arbiter {k0 : Arbiter} {s : State} (a : AbortCause) (l : List CtxId)
    (h : QueuesKept k0 s.arbiter) :
    QueuesKept k0 (l.foldl (fun u c => abortJob a c u) s).arbiter := by
  exact foldl_invariant (fun u : State => QueuesKept k0 u.arbiter) _ (fun u x hu => by simp [hu]) _ _ h

@[simp] theorem foldl_abortJob_flash {k0 : PortUnit} {s : State} (a : AbortCause) (l : List CtxId)
    (h : PortKept k0 s.flash) :
    PortKept k0 (l.foldl (fun u c => abortJob a c u) s).flash := by
  exact foldl_invariant (fun u : State => PortKept k0 u.flash) _ (fun u x hu => by simp [hu]) _ _ h

@[simp] theorem foldl_abortJob_disk {k0 : PortUnit} {s : State} (a : AbortCause) (l : List CtxId)
    (h : PortKept k0 s.disk) :
    PortKept k0 (l.foldl (fun u c => abortJob a c u) s).disk := by
  exact foldl_invariant (fun u : State => PortKept k0 u.disk) _ (fun u x hu => by simp [hu]) _ _ h

@[simp] theorem dropAwaitAck_arbiter {k0 : Arbiter} {s : State} (k : JobClass) (h : QueuesKept k0 s.arbiter) :
    QueuesKept k0 (dropAwaitAck s k).arbiter := by
  unfold dropAwaitAck; split <;> simp [h]

@[simp] theorem foldl_dropAwaitAck_arbiter {k0 : Arbiter} {s : State} (l : List JobClass)
    (h : QueuesKept k0 s.arbiter) :
    QueuesKept k0 (l.foldl dropAwaitAck s).arbiter := by
  exact foldl_invariant (fun u : State => QueuesKept k0 u.arbiter) _ (fun u x hu => by simp [hu]) _ _ h

@[simp] theorem holdMover_sup {k0 : Supervision} {s : State} (h : SupKept k0 s.sup) :
    SupKept k0 (holdMover s).sup := by
  unfold holdMover; dsimp only; split <;> simp [h]

@[simp] theorem holdMover_map {k0 : ResidencyMap} {s : State} (h : MapKept k0 s.map) :
    MapKept k0 (holdMover s).map := by
  unfold holdMover; dsimp only; split <;> simp [h]

@[simp] theorem holdMover_link {k0 : Link} {s : State} (h : LinkKept k0 s.link) :
    LinkKept k0 (holdMover s).link := by
  unfold holdMover; dsimp only; split <;> simp [h]

@[simp] theorem holdMover_arbiter {k0 : Arbiter} {s : State} (h : QueuesKept k0 s.arbiter) :
    QueuesKept k0 (holdMover s).arbiter := by
  unfold holdMover; dsimp only; split <;> simp [h]

@[simp] theorem holdMover_flash {k0 : PortUnit} {s : State} (h : PortKept k0 s.flash) :
    PortKept k0 (holdMover s).flash := by
  unfold holdMover; dsimp only; split <;> simp [h]

@[simp] theorem holdMover_disk {k0 : PortUnit} {s : State} (h : PortKept k0 s.disk) :
    PortKept k0 (holdMover s).disk := by
  unfold holdMover; dsimp only; split <;> simp [h]

@[simp] theorem takeCompletion_sup {k0 : Supervision} {s : State} (p : Port) (x : Piece) (st : PieceStatus)
    (h : SupKept k0 s.sup) :
    SupKept k0 (takeCompletion p x st s).sup := by
  unfold takeCompletion; (repeat' split) <;> simp [h]

@[simp] theorem takeCompletion_map {k0 : ResidencyMap} {s : State} (p : Port) (x : Piece) (st : PieceStatus)
    (h : MapKept k0 s.map) :
    MapKept k0 (takeCompletion p x st s).map := by
  unfold takeCompletion; (repeat' split) <;> simp [h]

@[simp] theorem takeCompletion_link {k0 : Link} {s : State} (p : Port) (x : Piece) (st : PieceStatus)
    (h : LinkKept k0 s.link) :
    LinkKept k0 (takeCompletion p x st s).link := by
  unfold takeCompletion; (repeat' split) <;> simp [h]

@[simp] theorem takeCompletion_arbiter {k0 : Arbiter} {s : State} (p : Port) (x : Piece) (st : PieceStatus)
    (h : QueuesKept k0 s.arbiter) :
    QueuesKept k0 (takeCompletion p x st s).arbiter := by
  unfold takeCompletion; (repeat' split) <;> simp [h]

@[simp] theorem takeCompletion_flash {k0 : PortUnit} {s : State} (p : Port) (x : Piece) (st : PieceStatus)
    (h : PortKept k0 s.flash) :
    PortKept k0 (takeCompletion p x st s).flash := by
  unfold takeCompletion; (repeat' split) <;> simp [h]

@[simp] theorem takeCompletion_disk {k0 : PortUnit} {s : State} (p : Port) (x : Piece) (st : PieceStatus)
    (h : PortKept k0 s.disk) :
    PortKept k0 (takeCompletion p x st s).disk := by
  unfold takeCompletion; (repeat' split) <;> simp [h]

@[simp] theorem finishHold_link {k0 : Link} {s : State} (op : HoldOp) (res : Nat) (h : LinkKept k0 s.link) :
    LinkKept k0 (finishHold op res s).link := by
  unfold finishHold; (repeat' split) <;> simp [h]

@[simp] theorem finishEnable_sup {k0 : Supervision} {s : State} (m : Mode) (h : SupKept k0 s.sup) :
    SupKept k0 (finishEnable m s).sup := by
  unfold finishEnable; dsimp only; split <;> simp [h]

@[simp] theorem finishEnable_link {k0 : Link} {s : State} (m : Mode) (h : LinkKept k0 s.link) :
    LinkKept k0 (finishEnable m s).link := by
  unfold finishEnable; dsimp only; split <;> simp [h]

@[simp] theorem flashReady_sup {k0 : Supervision} {s : State} (h : SupKept k0 s.sup) :
    SupKept k0 (flashReady s).sup := by
  unfold flashReady; (repeat' split) <;> simp [h]

@[simp] theorem flashReady_link {k0 : Link} {s : State} (h : LinkKept k0 s.link) :
    LinkKept k0 (flashReady s).link := by
  unfold flashReady; (repeat' split) <;> simp [h]

@[simp] theorem judgeSpinDown_disk {k0 : PortUnit} {s : State} (h : PortKept k0 s.disk) :
    PortKept k0 (judgeSpinDown s).disk := by
  unfold judgeSpinDown; split <;> simp [h]

@[simp] theorem judgeNeeds_disk {k0 : PortUnit} {s : State} (h : PortKept k0 s.disk) :
    PortKept k0 (judgeNeeds s).disk := by
  unfold judgeNeeds; split <;> simp [h]

@[simp] theorem judgeSpin_link {k0 : Link} {s : State} (h : LinkKept k0 s.link) :
    LinkKept k0 (judgeSpin s).link := by
  unfold judgeSpin; (repeat' split) <;> simp [h]

@[simp] theorem settle_sup {k0 : Supervision} {s : State} (b : State) (h : SupKept k0 s.sup) :
    SupKept k0 (settle b s).sup := by
  simp [settle, h]

@[simp] theorem settle_link {k0 : Link} {s : State} (b : State) (h : LinkKept k0 s.link) :
    LinkKept k0 (settle b s).link := by
  simp [settle, h]

@[simp] theorem settle_disk {k0 : PortUnit} {s : State} (b : State) (h : PortKept k0 s.disk) :
    PortKept k0 (settle b s).disk := by
  simp [settle, h]

@[simp] theorem countProgress_sup {k0 : Supervision} {s : State} (b : Bool) (h : SupKept k0 s.sup) :
    SupKept k0 (countProgress b s).sup := by
  unfold countProgress; (repeat' split) <;> simp [h]

@[simp] theorem passHand_sup {k0 : Supervision} {s : State} (b : Bool) (h : SupKept k0 s.sup) :
    SupKept k0 (passHand b s).sup := by
  simp [passHand, h]

@[simp] theorem postFlush_sup {k0 : Supervision} {s : State} (k : JobClass) (i : Nat) (h : SupKept k0 s.sup) :
    SupKept k0 (postFlush k i s).sup := by
  simp [postFlush, h]

@[simp] theorem postFlush_map {k0 : ResidencyMap} {s : State} (k : JobClass) (i : Nat) (h : MapKept k0 s.map) :
    MapKept k0 (postFlush k i s).map := by
  simp [postFlush, h]

@[simp] theorem retag_map {k0 : ResidencyMap} {s : State} (i : Nat) (h : MapKept k0 s.map) :
    MapKept k0 (retag i s).map := by
  unfold retag; dsimp only; split <;> simp [h]

@[simp] theorem endWalk_sup {k0 : Supervision} {s : State} (h : SupKept k0 s.sup) :
    SupKept k0 (endWalk s).sup := by
  unfold endWalk; dsimp only; split <;> simp [h]

@[simp] theorem endWalk_link {k0 : Link} {s : State} (h : LinkKept k0 s.link) :
    LinkKept k0 (endWalk s).link := by
  unfold endWalk; dsimp only; split <;> simp [h]

@[simp] theorem storeRange_link {k0 : Link} {s : State} (i : Nat) (e : Option RangeEntry) (t : Nat)
    (h : LinkKept k0 s.link) :
    LinkKept k0 (storeRange i e t s).link := by
  simp [storeRange, h]

@[simp] theorem oldestAccess_sup {k0 : Supervision} {s : State} (h : SupKept k0 s.sup) :
    SupKept k0 (oldestAccess s).sup := by
  unfold oldestAccess; dsimp only; (repeat' split) <;> simp [h]

@[simp] theorem oldestAccess_map {k0 : ResidencyMap} {s : State} (h : MapKept k0 s.map) :
    MapKept k0 (oldestAccess s).map := by
  unfold oldestAccess; dsimp only; (repeat' split) <;> simp [h]

/-- A run that joins a fallback list adds itself and loses no other. -/
theorem mem_insertRun {run q : Nat × Nat} {l : List (Nat × Nat)} : q ∈ insertRun run l ↔ q = run ∨ q ∈ l := by
  induction l with
  | nil => simp [insertRun]
  | cons p l ih =>
    unfold insertRun
    split
    · simp
    · simp only [List.mem_cons, ih]
      exact or_left_comm

/-- A fallback list stays in ascending LBA (R80). -/
theorem insertRun_ascending (run : Nat × Nat) {l : List (Nat × Nat)} (h : l.Pairwise (fun a b => a.1 ≤ b.1)) :
    (insertRun run l).Pairwise (fun a b => a.1 ≤ b.1) := by
  induction l with
  | nil => simp [insertRun]
  | cons p l ih =>
    obtain ⟨hp, hl⟩ := List.pairwise_cons.mp h
    unfold insertRun
    split
    · rename_i hlt
      refine List.pairwise_cons.mpr ⟨fun q hq => ?_, h⟩
      rcases List.mem_cons.mp hq with rfl | hq
      · omega
      · have := hp q hq; omega
    · refine List.pairwise_cons.mpr ⟨fun q hq => ?_, ih hl⟩
      rcases mem_insertRun.mp hq with rfl | hq
      · omega
      · exact hp q hq

end Sys2Proof.Machine
end

