-- ==== Sys2Proof/Laws/Link.lean ====
section
/-! SUPPORT. What the taking of the head does (R157 to R159): one lemma for each way it can go, which the statements about a
management command use instead of unfolding `manage`. -/

namespace Sys2Proof.Machine

open Sys2Proof.Safety

theorem takeHead_head {s : State} {d : Descriptor} {rest : List Descriptor} {f : Descriptor → Bool}
    (h : s.link.headHold = none) (hq : s.link.queue = d :: rest) (hf : f d = true) :
    takeHead f s = some (d, dequeued rest s) := by
  simp [takeHead, h, hq, hf, dequeued]

theorem takeHead_none {s : State} {f : Descriptor → Bool} (h : s.link.headHold ≠ none ∨ s.link.queue = []) :
    takeHead f s = none := by
  unfold takeHead
  rcases h with h | h
  · simp [Option.isSome_iff_ne_none, h]
  · simp [h]

theorem takeHead_other {s : State} {d : Descriptor} {rest : List Descriptor} {f : Descriptor → Bool}
    (hq : s.link.queue = d :: rest) (hf : f d = false) : takeHead f s = none := by
  simp [takeHead, hq, hf]

theorem manage_none {s : State} {op : Operation} {f : Descriptor → Bool} {owner : Descriptor → Nat → State → State}
    (h : s.link.headHold ≠ none ∨ s.link.queue = []) : manage op f owner s = none := by
  simp [manage, takeHead_none h]

/-- A tag that no record has is not held. -/
theorem tagHeld_false {s : State} {t : Nat} (h : ∀ r ∈ s.commands, r.tag ≠ t) : tagHeld t s = false := by
  simp only [tagHeld, findCommand, Option.isSome_eq_false_iff, Option.isNone_iff_eq_none, List.find?_eq_none]
  intro r hr
  simpa using h r hr

theorem manage_taken {s : State} {op : Operation} {d : Descriptor} {rest : List Descriptor} {f : Descriptor → Bool}
    {owner : Descriptor → Nat → State → State} (h : HeadIs op d rest s) (hf : f d = true) :
    manage op f owner s = some (owner d (tagOf d) (taken op d rest s)) := by
  obtain ⟨h1, h2, h3, h4⟩ := h
  have hh : tagHeld (tagOf d) (dequeued rest s) = false := tagHeld_false h4
  simp [manage, takeHead_head (f := fun d => isOperation op d && f d) h1 h2 (by simp [isOperation, h3, hf]), hh, taken]
  rfl

theorem manage_any {s : State} {op : Operation} {d : Descriptor} {rest : List Descriptor}
    {owner : Descriptor → Nat → State → State} (h : HeadIs op d rest s) :
    manage op anyDescriptor owner s = some (owner d (tagOf d) (taken op d rest s)) := manage_taken h rfl

theorem manage_conflict {s : State} {op : Operation} {d : Descriptor} {rest : List Descriptor} {f : Descriptor → Bool}
    {owner : Descriptor → Nat → State → State} (h1 : s.link.headHold = none) (h2 : s.link.queue = d :: rest)
    (h3 : operation d = some op) (hf : f d = true) (h4 : tagHeld (tagOf d) s = true) :
    manage op f owner s = some (replied d .tagConflict .none (dequeued rest s)) := by
  have hh : tagHeld (tagOf d) (dequeued rest s) = true := h4
  simp [manage, takeHead_head (f := fun d => isOperation op d && f d) h1 h2 (by simp [isOperation, h3, hf]), hh,
    answerUntaken, sendCompletion, replied]

theorem tagHeld_true {s : State} {t : Nat} (h : ∃ r ∈ s.commands, r.tag = t) : tagHeld t s = true := by
  simpa [tagHeld, findCommand] using h

theorem mediaCommand_head {s : State} {op : Operation} {d : Descriptor} {rest : List Descriptor}
    (h1 : s.link.headHold = none) (h2 : s.link.queue = d :: rest) (h3 : operation d = some op) :
    mediaCommand op s = takeMedia op d (dequeued rest s) := by
  simp [mediaCommand, takeHead_head (f := isOperation op) h1 h2 (by simp [isOperation, h3])]

/-- Every way the taking of a management descriptor can go. -/
theorem manage_cases (op : Operation) (f : Descriptor → Bool) (owner : Descriptor → Nat → State → State) (s : State) :
    manage op f owner s = none ∨
    ∃ d rest, s.link.headHold = none ∧ s.link.queue = d :: rest ∧ operation d = some op ∧ f d = true ∧
      (manage op f owner s = some (replied d .tagConflict .none (dequeued rest s)) ∨
        (HeadIs op d rest s ∧ manage op f owner s = some (owner d (tagOf d) (taken op d rest s)))) := by
  by_cases hh : s.link.headHold = none
  · cases hq : s.link.queue with
    | nil => exact .inl (manage_none (.inr hq))
    | cons d rest =>
      by_cases ho : isOperation op d = true ∧ f d = true
      · refine .inr ⟨d, rest, hh, rfl, ?_, ho.2, ?_⟩
        · simpa [isOperation] using ho.1
        · have h3 : operation d = some op := by simpa [isOperation] using ho.1
          cases ht : tagHeld (tagOf d) s
          · have hhead : HeadIs op d rest s := by
              refine ⟨hh, hq, h3, ?_⟩
              simp only [tagHeld, findCommand, Option.isSome_eq_false_iff, Option.isNone_iff_eq_none,
                List.find?_eq_none] at ht
              intro r hr
              simpa using ht r hr
            exact .inr ⟨hhead, manage_taken hhead ho.2⟩
          · exact .inl (manage_conflict hh hq h3 ho.2 ht)
      · left
        have : takeHead (fun d => isOperation op d && f d) s = none := takeHead_other hq (by simpa using ho)
        simp [manage, this]
  · exact .inl (manage_none (.inl hh))

theorem freeRecord_taken {s : State} {op : Operation} {d : Descriptor} {rest : List Descriptor}
    (h : HeadIs op d rest s) : freeRecord (tagOf d) (taken op d rest s) = dequeued rest s := by
  have hc : s.commands.filter (fun r => r.tag != tagOf d) = s.commands := by
    rw [List.filter_eq_self]
    intro r hr
    simpa using h.2.2.2 r hr
  simp [freeRecord, taken, dequeued, managementRecord, List.filter_append, hc]

theorem answer_taken {s : State} {op : Operation} {d : Descriptor} {rest : List Descriptor} (h : HeadIs op d rest s)
    (st : Status) (res : Result) :
    answer (tagOf d) st none res (taken op d rest s) = replied d st res (dequeued rest s) := by
  simp [answer, freeRecord_taken h, sendCompletion, replied]

theorem answerGood_taken {s : State} {op : Operation} {d : Descriptor} {rest : List Descriptor}
    (h : HeadIs op d rest s) (res : Result) :
    answerGood (tagOf d) res (taken op d rest s) = replied d .good res (dequeued rest s) := answer_taken h _ _

theorem refuse_taken {s : State} {op : Operation} {d : Descriptor} {rest : List Descriptor} (h : HeadIs op d rest s)
    (st : Status) : refuse (tagOf d) st (taken op d rest s) = replied d st .none (dequeued rest s) := answer_taken h _ _

/-- An operation that has left the Command Table as the taking of the head left it frees the record in its completion.
-/
theorem answer_of {s u : State} {op : Operation} {d : Descriptor} {rest : List Descriptor} (h : HeadIs op d rest s)
    (hu : u.commands = s.commands ++ [managementRecord (tagOf d) op]) (st : Status) (res : Result) :
    answer (tagOf d) st none res u = replied d st res { u with commands := s.commands } := by
  have hc : (s.commands ++ [managementRecord (tagOf d) op]).filter (fun r => r.tag != tagOf d) = s.commands :=
    congrArg State.commands (freeRecord_taken h)
  simp [answer, freeRecord, hu, hc, sendCompletion, replied]

theorem releaseHand_commands (u : State) (c : List CommandRec) :
    { releaseHand u with commands := c } = releaseHand { u with commands := c } := by
  unfold releaseHand; split <;> rfl

theorem putSlot_commands (i : Nat) (r : SlotRec) (u : State) (c : List CommandRec) :
    { putSlot i r u with commands := c } = putSlot i r { u with commands := c } := by
  unfold putSlot
  cases h : u.map.slots[i]? with
  | none => simp
  | some old =>
    simp only
    split
    · exact releaseHand_commands _ _
    · rfl

theorem modifySlot_commands (i : Nat) (f : SlotRec → SlotRec) (u : State) (c : List CommandRec) :
    { modifySlot i f u with commands := c } = modifySlot i f { u with commands := c } := putSlot_commands _ _ _ _

theorem storeParameter_commands (id : ParamId) (v : Nat) (u : State) (c : List CommandRec) :
    { storeParameter id v u with commands := c } = storeParameter id v { u with commands := c } := by
  unfold storeParameter parameterEffect
  cases id <;> simp only
  case sweepCode => unfold restartTick State.held; split <;> rfl
  case candidateMode => split <;> rfl
  case watchdogCode => unfold stopWatchdogs; split <;> rfl

theorem storeParameter_params (id : ParamId) (v : Nat) (u : State) :
    (storeParameter id v u).params = u.params.store u.map.slotCount id v := by
  simp [storeParameter]

@[simp] theorem event_none (s : State) : event s none = s := rfl
@[simp] theorem event_some (s t : State) : event s (some t) = settle s t := rfl

end Sys2Proof.Machine
end

