-- ==== Sys2Proof/Laws/Settle.lean ====
section
/-! SUPPORT. What the end of an event can do to the link, the Command Table, Supervision, the ports and the Reclaimer, beside
what `settle_frame` says it leaves unchanged. -/

namespace Sys2Proof.Machine

open Sys2Proof.Safety

/-- With no head hold in force the end of an event completes nothing. -/
theorem judgeSpin_free {s : State} (h : s.link.headHold = none) : judgeSpin s = s := by
  simp [judgeSpin, h]

/-- A hold that neither SPIN UP nor SPIN DOWN has placed stays in force at the end of an event. -/
theorem judgeSpin_other {s : State} {hh : HeadHold} (h : s.link.headHold = some hh)
    (h1 : hh.op ≠ .spinUp) (h2 : ∀ ph, hh.op ≠ .spinDown ph) : judgeSpin s = s := by
  obtain ⟨t, op⟩ := hh
  unfold judgeSpin
  cases op <;> simp_all

theorem settle_link_free {b s : State} (h : s.link.headHold = none) : (settle b s).link = s.link := by
  rw [settle, judgeSpin_free (by simpa using h)]; simp

theorem settle_commands_free {b s : State} (h : s.link.headHold = none) : (settle b s).commands = s.commands := by
  rw [settle, judgeSpin_free (by simpa using h)]; simp

@[simp] theorem judgeFree_mode (s : State) :
    (judgeFree s).sup.mode = s.sup.mode ∧ (judgeFree s).sup.enableWaiting = s.sup.enableWaiting := by
  unfold judgeFree setFlag Supervision.drive; (repeat' split) <;> simp

@[simp] theorem judgeDirty_mode (s : State) :
    (judgeDirty s).sup.mode = s.sup.mode ∧ (judgeDirty s).sup.enableWaiting = s.sup.enableWaiting := by
  unfold judgeDirty setFlag Supervision.drive; (repeat' split) <;> simp

@[simp] theorem judgeStall_mode (s : State) :
    (judgeStall s).sup.mode = s.sup.mode ∧ (judgeStall s).sup.enableWaiting = s.sup.enableWaiting := by
  unfold judgeStall setFlag Supervision.drive; (repeat' split) <;> simp

/-- The end of an event changes no mode and no hold. -/
@[simp] theorem settle_mode (b s : State) :
    (settle b s).sup.mode = s.sup.mode ∧ (settle b s).sup.enableWaiting = s.sup.enableWaiting := by
  simp [settle, judgeCrossings]

theorem settle_holds (b s : State) : (settle b s).sup.holds = s.sup.holds ∧ (settle b s).sup.mask = s.sup.mask ∧
    (settle b s).sup.cursor = s.sup.cursor := by
  have h := settle_sup (k0 := s.sup) (s := s) b (by simp)
  exact ⟨h.holds, h.mask, h.cursor⟩

/-- START and STOP change no list of the Disk Port. -/
@[simp] theorem sendMessage_lists (p q : Port) (m : PortMessage) (s : State) :
    ((sendMessage p m s).port q).list = (s.port q).list ∧ ((sendMessage p m s).port q).withheld = (s.port q).withheld ∧
    ((sendMessage p m s).port q).timeouts = (s.port q).timeouts ∧
    ((sendMessage p m s).port q).status = (s.port q).status := by
  cases p <;> cases q <;> simp [sendMessage, setPort, State.port]

@[simp] theorem actOnNeed_lists (s : State) :
    (actOnNeed s).disk.list = s.disk.list ∧ (actOnNeed s).disk.withheld = s.disk.withheld ∧
    (actOnNeed s).disk.timeouts = s.disk.timeouts ∧ (actOnNeed s).disk.status = s.disk.status := by
  unfold actOnNeed; (repeat' split) <;> simp [sendStart, sendMessage, setPort, State.port]

@[simp] theorem judgeSpinDown_lists (s : State) :
    (judgeSpinDown s).disk.list = s.disk.list ∧ (judgeSpinDown s).disk.withheld = s.disk.withheld ∧
    (judgeSpinDown s).disk.timeouts = s.disk.timeouts ∧ (judgeSpinDown s).disk.status = s.disk.status := by
  unfold judgeSpinDown; split <;> simp [sendStop, sendMessage, setPort, State.port]

@[simp] theorem judgeNeeds_lists (s : State) :
    (judgeNeeds s).disk.list = s.disk.list ∧ (judgeNeeds s).disk.withheld = s.disk.withheld ∧
    (judgeNeeds s).disk.timeouts = s.disk.timeouts ∧ (judgeNeeds s).disk.status = s.disk.status := by
  unfold judgeNeeds; split <;> simp

/-- The end of an event changes no piece and no record of the Disk Port. -/
@[simp] theorem settle_lists (b s : State) :
    (settle b s).disk.list = s.disk.list ∧ (settle b s).disk.withheld = s.disk.withheld ∧
    (settle b s).disk.timeouts = s.disk.timeouts ∧ (settle b s).disk.status = s.disk.status := by
  simp [settle]

theorem settle_disk_eq (b s : State) : (settle b s).disk = (judgeNeeds (judgeSpinDown s)).disk := by
  simp [settle]

/-- The end of an event changes the spindle by the pending SPIN DOWN, the needs and the idle timer. -/
theorem settle_spindle (b s : State) : (settle b s).spindle =
    { (judgeNeeds (judgeSpinDown s)).spindle with idleTimer := (settle b s).spindle.idleTimer } := by
  have h : ∀ u : State, (judgeIdleTimer u).spindle =
      { u.spindle with idleTimer := (judgeIdleTimer u).spindle.idleTimer } := fun _ => rfl
  have e : (settle b s).spindle =
      (judgeIdleTimer (judgeCrossings (judgeHand (judgeDuties (judgeNeeds (judgeSpinDown s)))))).spindle := by
    simp [settle]
  rw [e, h]
  simp

@[simp] theorem releaseHand_hand (s : State) :
    (releaseHand s).reclaimer.hand = s.reclaimer.hand ∧ (releaseHand s).reclaimer.duties = s.reclaimer.duties ∧
    (releaseHand s).reclaimer.noProgress = s.reclaimer.noProgress ∧
    (releaseHand s).reclaimer.idleRevolution = s.reclaimer.idleRevolution ∧
    (releaseHand s).reclaimer.idleFlushTimer = s.reclaimer.idleFlushTimer := by
  unfold releaseHand; split <;> simp

@[simp] theorem judgeDuties_hand (s : State) :
    (judgeDuties s).reclaimer.hand = s.reclaimer.hand ∧
    (judgeDuties s).reclaimer.noProgress = s.reclaimer.noProgress ∧
    (judgeDuties s).reclaimer.idleRevolution = s.reclaimer.idleRevolution ∧
    (judgeDuties s).reclaimer.idleFlushTimer = s.reclaimer.idleFlushTimer := by
  unfold judgeDuties setDuties; (repeat' split) <;> simp

/-- The end of an event moves no hand and changes no count of the Reclaimer. -/
@[simp] theorem settle_hand (b s : State) :
    (settle b s).reclaimer.hand = s.reclaimer.hand ∧
    (settle b s).reclaimer.noProgress = s.reclaimer.noProgress ∧
    (settle b s).reclaimer.idleRevolution = s.reclaimer.idleRevolution := by
  simp [settle, judgeHand, judgeIdleFlush]

theorem stopWatchdog_ctx (s : State) (k c : CtxId) :
    (stopWatchdog s k).ctx c = s.ctx c ∨ (stopWatchdog s k).ctx c = (s.ctx c).map (fun x => { x with watchdog := none }) := by
  unfold stopWatchdog
  split
  · cases k <;> cases c <;> simp [modifyCtx, setCtx, State.ctx]
  · exact .inl rfl

/-- The end of an event changes a context only in its watchdog. -/
theorem judgeWatchdogs_ctx (s : State) (c : CtxId) :
    (judgeWatchdogs s).ctx c = s.ctx c ∨
      (judgeWatchdogs s).ctx c = (s.ctx c).map (fun x => { x with watchdog := none }) := by
  have h0 := stopWatchdog_ctx s .ctx0 c
  have h1 := stopWatchdog_ctx (stopWatchdog s .ctx0) .ctx1 c
  show (stopWatchdog (stopWatchdog s .ctx0) .ctx1).ctx c = _ ∨ (stopWatchdog (stopWatchdog s .ctx0) .ctx1).ctx c = _
  rcases h0 with h0 | h0 <;> rcases h1 with h1 | h1 <;> rw [h1, h0] <;> simp [Function.comp_def]

theorem settle_ctx (b s : State) (c : CtxId) :
    (settle b s).ctx c = s.ctx c ∨ (settle b s).ctx c = (s.ctx c).map (fun x => { x with watchdog := none }) := by
  have h := judgeWatchdogs_ctx (judgeStall (judgeIdleFlush b (judgeIdleTimer
    (judgeCrossings (judgeHand (judgeDuties (judgeNeeds (judgeSpinDown s)))))))) c
  have e : (judgeStall (judgeIdleFlush b (judgeIdleTimer
    (judgeCrossings (judgeHand (judgeDuties (judgeNeeds (judgeSpinDown s)))))))).mover = s.mover := by simp
  have e2 : ∀ u : State, (settle b s).mover = u.mover → (settle b s).ctx c = u.ctx c := by
    intro u hu; cases c <;> simp [State.ctx, hu]
  rw [e2 _ (by simp [settle]; rfl)]
  have e3 : ∀ u : State, u.mover = s.mover → u.ctx c = s.ctx c := by
    intro u hu; cases c <;> simp [State.ctx, hu]
  rw [e3 _ e] at h
  exact h

end Sys2Proof.Machine
end

