-- ==== Sys2Proof/Laws/Mode.lean ====
section
/-! SUPPORT. No operation of the Mover or of the ports below `setMode` changes the part's mode. -/

namespace Sys2Proof.Machine

@[simp] theorem setFlag_mode (f : EventFlag) (s : State) : (setFlag f s).sup.mode = s.sup.mode := rfl

@[simp] theorem recordEnd_mode (s : State) (x : Context) (e : JobEnd) :
    (recordEnd x e s).sup.mode = s.sup.mode := by
  unfold recordEnd; split <;> simp

@[simp] theorem takeJobEnd_mode (s : State) (k : JobClass) (c : Option AbortCause) :
    (takeJobEnd k c s).sup.mode = s.sup.mode := by
  unfold takeJobEnd; (repeat' split) <;> simp

@[simp] theorem post_mode (s : State) (k : JobClass) (j : Job) : (post k j s).sup.mode = s.sup.mode := by
  unfold post; (repeat' split) <;> simp

@[simp] theorem scanChunk_mode (s : State) : (scanChunk s).sup.mode = s.sup.mode := by
  unfold scanChunk stallScanner; dsimp only; (repeat' split) <;> simp

@[simp] theorem resumeScan_mode (s : State) : (resumeScan s).sup.mode = s.sup.mode := by
  unfold resumeScan; split <;> simp

@[simp] theorem endJob_mode (s : State) (c : CtxId) (e : JobEnd) :
    ((endJob c e s).1).sup.mode = s.sup.mode := by
  unfold endJob; dsimp only; (repeat' split) <;> simp

@[simp] theorem judgeMediaLoss_mode (s : State) (x : Context) (q : Piece) (st : PieceStatus) :
    (judgeMediaLoss x q st s).sup.mode = s.sup.mode := by
  unfold judgeMediaLoss; (repeat' split) <;> simp

@[simp] theorem failAtPiece_mode (s : State) (c : CtxId) (p : Port) (q : Piece) (st : PieceStatus) :
    ((failAtPiece c p q st s).1).sup.mode = s.sup.mode := by
  unfold failAtPiece; dsimp only; split <;> simp

@[simp] theorem evictCheck_mode (s : State) (c : CtxId) (x : Context) :
    ((evictCheck c x s).1).sup.mode = s.sup.mode := by
  unfold evictCheck; dsimp only; split <;> simp

@[simp] theorem issuePiece_mode (s : State) (c : CtxId) (q : PieceSpec) (x y : Context) :
    ((issuePiece c q x y s).1).sup.mode = s.sup.mode := by
  unfold issuePiece; dsimp only; (repeat' split) <;> simp

@[simp] theorem advance_mode (s : State) (c : CtxId) :
    ((advance c s).1).sup.mode = s.sup.mode := by
  unfold advance; (repeat' split) <;> simp

@[simp] theorem settleSuspending_mode (s : State) (c : CtxId) (x : Context) :
    ((settleSuspending c x s).1).sup.mode = s.sup.mode := by
  unfold settleSuspending; (repeat' split) <;> simp

@[simp] theorem passPiece_mode (s : State) (c : CtxId) (q : Piece) :
    ((passPiece c q s).1).sup.mode = s.sup.mode := by
  unfold passPiece; dsimp only; (repeat' split) <;> simp

@[simp] theorem moverTake_mode (s : State) (c : CtxId) (p : Port) (q : Piece) (st : PieceStatus) :
    ((moverTake c p q st s).1).sup.mode = s.sup.mode := by
  unfold moverTake; split <;> simp

@[simp] theorem takeFillSlot_mode (s : State) (c : CtxId) (x : Context) (i : Nat) (r : SlotRec) :
    ((takeFillSlot c x i r s).1).sup.mode = s.sup.mode := by
  simp [takeFillSlot]

@[simp] theorem startFill_mode (s : State) (c : CtxId) (x : Context) :
    ((startFill c x s).1).sup.mode = s.sup.mode := by
  unfold startFill; dsimp only; (repeat' split) <;> simp

@[simp] theorem startFlush_mode (s : State) (c : CtxId) (x : Context) (i : Nat) :
    ((startFlush c x i s).1).sup.mode = s.sup.mode := by
  unfold startFlush; dsimp only; (repeat' split) <;> simp

@[simp] theorem startJob_mode (s : State) (c : CtxId) :
    ((startJob c s).1).sup.mode = s.sup.mode := by
  unfold startJob; (repeat' split) <;> simp

@[simp] theorem follow_mode (s : State) (f : Follow) :
    ((follow f s).1).sup.mode = s.sup.mode := by
  unfold follow; split <;> simp

@[simp] theorem runMover_mode (p : State × Option Follow) (n : Nat) :
    (runMover n p).sup.mode = p.1.sup.mode := by
  induction n generalizing p with
  | zero => simp [runMover]
  | succ n ih =>
    obtain ⟨u, f⟩ := p
    cases f with
    | none => simp [runMover]
    | some f => simp [runMover, ih]

@[simp] theorem leaveQueue_mode (s : State) (k : JobClass) (rest : List Job) :
    (leaveQueue k rest s).sup.mode = s.sup.mode := by
  unfold leaveQueue; dsimp only; (repeat' split) <;> simp

@[simp] theorem grant_mode (s : State) (k : JobClass) :
    ((grant k s).1).sup.mode = s.sup.mode := by
  unfold grant; dsimp only; (repeat' split) <;> simp

@[simp] theorem deliver_mode (s : State) (p : Port) (b : List Piece) (x : Piece) (st : PieceStatus) :
    (deliver p b x st s).sup.mode = s.sup.mode := by
  unfold deliver; split <;> simp

@[simp] theorem completePiece_mode (s : State) (p : Port) (id : Nat) (st : PieceStatus) :
    (completePiece p id st s).sup.mode = s.sup.mode := by
  unfold completePiece; split <;> simp

@[simp] theorem forcePiece_mode (s : State) (p : Port) (id : Nat) :
    (forcePiece p s id).sup.mode = s.sup.mode := by
  unfold forcePiece; split
  · split <;> simp
  · simp

@[simp] theorem forceWhere_mode (s : State) (p : Port) (f : Piece → Bool) :
    (forceWhere p f s).sup.mode = s.sup.mode := by
  unfold forceWhere
  exact foldl_invariant (fun u : State => u.sup.mode = s.sup.mode) _ (fun u x hu => by simp [hu]) _ _ rfl

end Sys2Proof.Machine
end

