-- ==== Sys2Proof/Laws/PerInstr.lean ====
section
/-! SUPPORT. A law of every command as syntax: the commands that take the head of the Arrival Queue are exactly those that
some descriptor names (R158, R176). -/

namespace Sys2Proof.Laws

/-- A command takes the head exactly if some descriptor names it. -/
def Named.Statement (i : Instr) : Prop := i ∈ Safety.headCommands ↔ ∃ d : Descriptor, headCommand d = i

/-- Every descriptor names a command that takes the head. -/
theorem headCommand_mem (d : Descriptor) : headCommand d ∈ Safety.headCommands := by
  unfold headCommand
  (repeat' split) <;> decide

/-- A command that some descriptor names takes the head. -/
theorem named_of {i : Instr} (d : Descriptor) (h : headCommand d = i) : Named.Statement i :=
  ⟨fun _ => ⟨d, h⟩, fun _ => h ▸ headCommand_mem d⟩

/-- No descriptor names a command that does not take the head. -/
theorem unnamed_of {i : Instr} (h : i ∉ Safety.headCommands) : Named.Statement i :=
  ⟨fun hi => absurd hi h, fun ⟨d, hd⟩ => absurd (hd ▸ headCommand_mem d) h⟩

/-- The descriptor with a given header and no payload. -/
def bare (header : Nat) : Descriptor := ⟨BitVec.ofNat 128 header, 0#3456⟩

theorem Named.powerOn : Named.Statement .powerOn := unnamed_of (by decide)

theorem Named.linkReset : Named.Statement .linkReset := unnamed_of (by decide)

theorem Named.descriptorArrival (d : Descriptor) : Named.Statement (.descriptorArrival d) :=
  unnamed_of (by simp [Safety.headCommands])

theorem Named.read : Named.Statement .read := named_of (bare 1) (by decide)

theorem Named.write : Named.Statement .write := named_of (bare 2) (by decide)

theorem Named.trim : Named.Statement .trim := named_of (bare 3) (by decide)

theorem Named.sync : Named.Statement .sync := named_of (bare 4) (by decide)

theorem Named.unknownOperation : Named.Statement .unknownOperation := named_of (bare 0) (by decide)

theorem Named.identify : Named.Statement .identify := named_of (bare 32) (by decide)

theorem Named.setGeometry : Named.Statement .setGeometry := named_of (bare 33) (by decide)

theorem Named.loadSlots : Named.Statement .loadSlots := named_of (bare 34) (by decide)

theorem Named.setParametersWrite : Named.Statement .setParametersWrite := named_of (bare (35 + 2 ^ 48)) (by decide)

theorem Named.setParametersRead : Named.Statement .setParametersRead := named_of (bare 35) (by decide)

theorem Named.loadRange : Named.Statement .loadRange := named_of (bare 36) (by decide)

theorem Named.clearHeatEmpty : Named.Statement .clearHeatEmpty := named_of (bare 37) (by decide)

theorem Named.clearHeatLevel : Named.Statement .clearHeatLevel := named_of (bare (37 + 2 ^ 32)) (by decide)

theorem Named.postJob : Named.Statement .postJob := named_of (bare 38) (by decide)

theorem Named.ackJob : Named.Statement .ackJob := named_of (bare 39) (by decide)

theorem Named.setLowest : Named.Statement .setLowest := named_of (bare 40) (by decide)

theorem Named.setMask : Named.Statement .setMask := named_of (bare 41) (by decide)

theorem Named.pollArbiter : Named.Statement .pollArbiter := named_of (bare 42) (by decide)

theorem Named.readJobStatus : Named.Statement .readJobStatus := named_of (bare 43) (by decide)

theorem Named.spinUp : Named.Statement .spinUp := named_of (bare 44) (by decide)

theorem Named.spinDown : Named.Statement .spinDown := named_of (bare 45) (by decide)

theorem Named.portRestart : Named.Statement .portRestart := named_of (bare 46) (by decide)

theorem Named.readStatus : Named.Statement .readStatus := named_of (bare 47) (by decide)

theorem Named.readEvents : Named.Statement .readEvents := named_of (bare 48) (by decide)

theorem Named.setEventMask : Named.Statement .setEventMask := named_of (bare 49) (by decide)

theorem Named.holdBlocks : Named.Statement .holdBlocks := named_of (bare 50) (by decide)

theorem Named.setCursor : Named.Statement .setCursor := named_of (bare 51) (by decide)

theorem Named.readNext : Named.Statement .readNext := named_of (bare 52) (by decide)

theorem Named.enable : Named.Statement .enable := named_of (bare 53) (by decide)

theorem Named.routePortion (order : AccessOrder) : Named.Statement (.routePortion order) :=
  unnamed_of (by simp [Safety.headCommands])

theorem Named.routeSync : Named.Statement .routeSync := unnamed_of (by decide)

theorem Named.fallbackPieceMake : Named.Statement .fallbackPieceMake := unnamed_of (by decide)

theorem Named.access : Named.Statement .access := unnamed_of (by decide)

theorem Named.sweepVisit : Named.Statement .sweepVisit := unnamed_of (by decide)

theorem Named.retagVisit : Named.Statement .retagVisit := unnamed_of (by decide)

theorem Named.pinScannerExamination : Named.Statement .pinScannerExamination := unnamed_of (by decide)

theorem Named.grant : Named.Statement .grant := unnamed_of (by decide)

theorem Named.moverIssueRetry (ctx : CtxId) : Named.Statement (.moverIssueRetry ctx) :=
  unnamed_of (by simp [Safety.headCommands])

theorem Named.watchdogExpiry (ctx : CtxId) : Named.Statement (.watchdogExpiry ctx) :=
  unnamed_of (by simp [Safety.headCommands])

theorem Named.pieceCompletion (port : Port) (id status offset : Byte) : Named.Statement
    (.pieceCompletion port id status offset) :=
  unnamed_of (by simp [Safety.headCommands])

theorem Named.abortFoundNothing (port : Port) (id : Byte) : Named.Statement (.abortFoundNothing port id) :=
  unnamed_of (by simp [Safety.headCommands])

theorem Named.pieceTimeout (port : Port) (id : Byte) : Named.Statement (.pieceTimeout port id) :=
  unnamed_of (by simp [Safety.headCommands])

theorem Named.probeReady (port : Port) (spindle : Byte) : Named.Statement (.probeReady port spindle) :=
  unnamed_of (by simp [Safety.headCommands])

theorem Named.probeTimeout (port : Port) : Named.Statement (.probeTimeout port) :=
  unnamed_of (by simp [Safety.headCommands])

theorem Named.halt : Named.Statement .halt := unnamed_of (by decide)

theorem Named.startReply (status : Byte) : Named.Statement (.startReply status) :=
  unnamed_of (by simp [Safety.headCommands])

theorem Named.stopReply : Named.Statement .stopReply := unnamed_of (by decide)

theorem Named.startTimerExpiry : Named.Statement .startTimerExpiry := unnamed_of (by decide)

theorem Named.retryDelayExpiry : Named.Statement .retryDelayExpiry := unnamed_of (by decide)

theorem Named.idleTimerExpiry : Named.Statement .idleTimerExpiry := unnamed_of (by decide)

theorem Named.reclaimerExamination : Named.Statement .reclaimerExamination := unnamed_of (by decide)

theorem Named.idleFlushExpiry : Named.Statement .idleFlushExpiry := unnamed_of (by decide)

theorem Named.unknownPortMessage (port : Port) (message : BitVec 192) : Named.Statement
    (.unknownPortMessage port message) :=
  unnamed_of (by simp [Safety.headCommands])

end Sys2Proof.Laws
end

