-- ==== Sys2Proof/WellFormed.lean ====
section
/-! DEFINITION. When a command is one that its sender can send: a descriptor is whole (R176), a completion and a
START reply carry a listed status (R180, R181), and an unknown port message is one that R181 discards. The machine
itself is total and does not consult these checks. -/

namespace Sys2Proof

open Machine in
/-- The descriptor is a 16-byte header and the payload its operation code fixes (R176): nothing stands past it. -/
def Descriptor.wf (d : Descriptor) : Bool :=
  match operation d with
  | none => d.payload == 0#3456
  | some op => d.payload.toNat < 2 ^ (8 * op.payloadLength)

def Instr.wf : Instr → Bool
  | .descriptorArrival d => d.wf
  | .pieceCompletion _ _ status _ => status.toNat ≤ 3
  | .startReply status => status.toNat ≤ 1
  | .unknownPortMessage p m => decodePortMessage p m == .unknownPortMessage p m
  | _ => true

end Sys2Proof
end

