-- ==== Sys2Proof/Tests/Slice0.lean ====
section
/-! SUPPORT. The model's own tests: ill-formed terms that the checks refuse; for every statement with hypotheses a state and
operands that meet them, clause by clause; and one small step of each command. -/

namespace Sys2Proof.Tests

open Sys2Proof.Machine Sys2Proof.Safety

set_option Elab.async false

/-! ### Helpers -/

/-- A descriptor with tag 3: operation code, operand bytes from byte 4 on and from byte 8 on. -/
def cmd (op : Nat) (b4 : Nat := 0) (b8 : Nat := 0) : Descriptor :=
  ⟨BitVec.ofNat 128 (op + 3 * 2 ^ 8 + b4 * 2 ^ 32 + b8 * 2 ^ 64), 0#3456⟩

/-- The same with a payload. -/
def loaded (op b4 payload : Nat) : Descriptor := { cmd op b4 with payload := BitVec.ofNat 3456 payload }

/-- A media descriptor with tag 3, host buffer reference 77. -/
def media (op lba count : Nat) : Descriptor :=
  ⟨BitVec.ofNat 128 (op + 3 * 2 ^ 8 + lba * 2 ^ 32 + count * 2 ^ 80), 77#3456⟩

/-- A part in ONLINE with 64 slots and 256 chunks, both ports READY, the spindle STOPPED. -/
def part : State := { State.reset with
  map := ⟨64, 65536, List.replicate 64 .free, [], 64, 0, 0⟩
  params := State.reset.params.geometryMarks 64
  flash := { State.reset.flash with status := .ready, probeTimer := none }
  disk := { State.reset.disk with status := .ready, probeTimer := none }
  sup := { State.reset.sup with mode := .online } }

/-- The same in another mode. -/
def inMode (m : Mode) : State := { part with sup := { part.sup with mode := m } }

def withSpindle (st : SpindleState) (s : State) : State := { s with spindle := { s.spindle with state := st } }

def running : State := withSpindle .running part

def held (op : HoldOp) (s : State) : State := { s with link := { s.link with headHold := some ⟨5, op⟩ } }

/-- A descriptor stands alone in the Arrival Queue. -/
def atHead (d : Descriptor) (s : State) : State := { s with link := { s.link with queue := [d] } }

/-- A command record with tag 3. -/
def command (kind : Operation) (lba count : Nat) : CommandRec where
  tag := 3
  kind := kind
  lba := lba
  count := count
  buffer := 77#64
  streaming := false
  cursor := lba
  routingDone := false
  outstanding := 0
  fallbackList := []
  fallbackPieces := []
  status := .good
  errorLba := none

/-- A command at the front of the routing order. -/
def routing (r : CommandRec) (s : State) : State := { s with commands := [r], routing := [3] }

/-- A slot bound to a chunk. -/
def resident (chunk : Nat) (valid dirty : OffsetSet) : SlotRec :=
  { SlotRec.free with state := .resident, chunk := some chunk, valid := valid, dirty := dirty }

/-- Slot `i` has the record `r`. -/
def bind (i : Nat) (r : SlotRec) (s : State) : State := putSlot i r s

def queued (k : JobClass) (l : List Job) (s : State) : State :=
  { s with arbiter := { s.arbiter with queues := s.arbiter.queues.set k l } }

def serving (k : JobClass) (v : Service) (s : State) : State := setService k v s

def flashPiece (id : Nat) (o : Owner) (st : PieceState) : Piece :=
  ⟨id, o, .write, .flash 5 7, 3, .host 77#64 0, false, st, some 200⟩

def diskPiece (id : Nat) (o : Owner) (st : PieceState) : Piece :=
  ⟨id, o, .read, .disk 512, 256, .host 77#64 0, false, st, some 5000⟩

def onFlash (l : List Piece) (s : State) : State := { s with flash := { s.flash with list := l } }
def onDisk (l : List Piece) (s : State) : State := { s with disk := { s.disk with list := l } }

/-- A fill in its disk read, in slot 5 for chunk 2. -/
def filling : Context where
  cls := .hotFill
  action := .fill
  chunk := some 2
  slot := some 5
  phase := .diskRead
  readSpan := some (0, 255)
  cursor := 0
  snapshot := []
  runIndex := 0
  piece := none
  poolWait := true
  abort := none
  watchdog := some 1000
  usingDisk := true
  staged := 0#256

def moving (c : Context) (s : State) : State := { s with mover := { s.mover with ctx0 := some c } }

/-- The next state of an answer. -/
def after (a : Answer) : State :=
  match a with
  | .next t => t
  | _ => State.reset

/-- A law of each non-empty entry of a range list, from its check on the list. -/
theorem all_entries {P : RangeEntry → Prop} [DecidablePred P] {l : List (Option RangeEntry)}
    (h : l.all (fun e => e.all (fun r => decide (P r))) = true) : ∀ r, some r ∈ l → P r := by
  intro r hr
  simpa using List.all_eq_true.mp h (some r) hr

/-! ### WellFormed: what the checks refuse -/

theorem test_wf_payload_of_unknown : (loaded 0 0 1).wf = false ∧ (cmd 0).wf = true := by decide +kernel
theorem test_wf_payload_too_long :
    (loaded 36 0 (2 ^ 128)).wf = false ∧ (loaded 36 0 (2 ^ 128 - 1)).wf = true := by decide +kernel
theorem test_wf_arrival : (Instr.descriptorArrival (loaded 32 0 1)).wf = false := by decide +kernel
theorem test_wf_completion_status :
    (Instr.pieceCompletion .flash 0#8 4#8 0#8).wf = false ∧ (Instr.pieceCompletion .flash 0#8 3#8 0#8).wf = true := by
  decide +kernel
theorem test_wf_start_status : (Instr.startReply 2#8).wf = false ∧ (Instr.startReply 1#8).wf = true := by decide +kernel
theorem test_wf_known_message : (Instr.unknownPortMessage .disk 5#192).wf = false ∧
    (Instr.unknownPortMessage .flash 5#192).wf = true := by decide +kernel

/-! ### States that meet the statements' hypotheses -/

theorem test_meets_StepTakesFrontCommand : State.reset.pending = [] := rfl

theorem test_meets_DescriptorArrival :
    ({ part.link with queue := List.replicate 7 (cmd 32) } : Link).ready = true ∧
    ({ part.link with queue := List.replicate 8 (cmd 32), ready := false } : Link).ready = false := by decide +kernel

theorem test_meets_NoHeadNoEffect : Instr.read ∈ headCommands ∧ Instr.enable ∈ headCommands ∧
    (held .spinUp part).link.headHold ≠ none ∧ part.link.queue = [] := by decide +kernel

theorem test_meets_MediaAccepted : part.sup.mode ≠ .loading ∧
    (∀ p ∈ [(Operation.read, 1), (.write, 2), (.trim, 3)],
      HeadIs p.1 (media p.2 65535 1) [] (atHead (media p.2 65535 1) part) ∧
      lbaOf (media p.2 65535 1) + countOf (media p.2 65535 1) = part.map.diskSize) ∧
    HeadIs .sync (cmd 4) [] (atHead (cmd 4) part) := by unfold HeadIs; decide +kernel

/-- Streams whose second and third records both expect LBA 9. -/
def streamed : State := { part with streams := [⟨1, 5⟩, ⟨9, 65535⟩, ⟨9, 3⟩, ⟨2, 4⟩] }

theorem test_meets_MediaAccepted_streams : HeadIs .write (media 2 9 5) [] (atHead (media 2 9 5) streamed) ∧
    lbaOf (media 2 9 5) = 9 ∧ streamed.streams = [⟨1, 5⟩] ++ ⟨9, 65535⟩ :: [⟨9, 3⟩, ⟨2, 4⟩] ∧
    (∀ r ∈ [(⟨1, 5⟩ : StreamRec)], r.next ≠ 9) ∧ (∀ r ∈ streamed.streams, r.next ≠ lbaOf (media 2 8 5)) ∧
    (after (exec .write (atHead (media 2 9 5) streamed))).streams = [⟨14, 65535⟩, ⟨1, 5⟩, ⟨9, 3⟩, ⟨2, 4⟩] ∧
    (after (exec .write (atHead (media 2 8 5) streamed))).streams = [⟨13, 5⟩, ⟨1, 5⟩, ⟨9, 65535⟩, ⟨9, 3⟩] := by
  unfold HeadIs; decide +kernel

theorem test_meets_MediaAnsweredAtOnce : operation (media 1 65535 2) = some .read ∧
    (∃ r ∈ (routing (command .read 0 1) part).commands, r.tag = tagOf (media 1 0 1)) ∧
    (inMode .loading).sup.mode = .loading ∧
    part.map.diskSize < lbaOf (media 1 65535 2) + countOf (media 1 65535 2) ∧
    part.map.diskSize < lbaOf (media 1 65536 1) + countOf (media 1 65536 1) := by decide +kernel

theorem test_meets_DecoderAnswers : operation (cmd 0) = none ∧ operation (cmd 54) = none ∧
    (∀ p ∈ [(Instr.identify, cmd 32), (.setParametersWrite, cmd 35 65537), (.clearHeatLevel, cmd 37 1), (.enable, cmd 53)],
      headCommand p.2 = p.1 ∧ ∃ q ∈ managementCommands, q.1 = p.1 ∧ operation p.2 = some q.2) ∧
    (∃ r ∈ (routing (command .read 0 1) part).commands, r.tag = tagOf (cmd 32)) := by decide +kernel

theorem test_meets_reports : ∀ p ∈ [(Operation.identify, 32), (.pollArbiter, 42), (.readJobStatus, 43), (.readStatus, 47),
    (.readEvents, 48), (.setEventMask, 49)], HeadIs p.1 (cmd p.2 65535) [] (atHead (cmd p.2 65535) part) := by
  unfold HeadIs; decide +kernel

theorem test_meets_TableReadCursor :
    (∀ t ∈ [0, 1, 2, 3], HeadIs .setCursor (cmd 51 t 63) [] (atHead (cmd 51 t 63) part) ∧
      headerField (cmd 51 t 63) 4 1 = t) ∧
    (∀ i ∈ [63, 64], HeadIs .readNext (cmd 52) []
      (atHead (cmd 52) { part with sup := { part.sup with cursor := ⟨.slots, i, true⟩ } })) := by
  unfold HeadIs; decide +kernel

theorem test_meets_SetGeometry :
    (∀ p ∈ [(64, 65536), (65536, 2 ^ 40)],
      HeadIs .setGeometry (cmd 33 p.1 p.2) [] (atHead (cmd 33 p.1 p.2) (inMode .loading)) ∧
      headerField (cmd 33 p.1 p.2) 4 4 = p.1 ∧ headerField (cmd 33 p.1 p.2) 8 6 = p.2) ∧
    (inMode .loading).walk = none ∧ (inMode .online).sup.mode ≠ .loading ∧
    (∀ p ∈ [(63, 65536), (65537, 65536), (64, 65280), (64, 2 ^ 40 + 256), (64, 65537)],
      headerField (cmd 33 p.1 p.2) 4 4 = p.1 ∧ headerField (cmd 33 p.1 p.2) 8 6 = p.2) := by
  unfold HeadIs; decide +kernel

/-- A Range Table with one entry. -/
def ranged (i : Nat) (e : RangeEntry) (s : State) : State := { s with ranges := s.ranges.set i (some e) }

theorem test_meets_SetGeometry_ranges :
    (∀ r, some r ∈ (ranged 0 ⟨0, 65535, .pin⟩ (inMode .loading)).ranges → r.last < 65536) ∧
    (∃ r, some r ∈ (ranged 0 ⟨0, 65536, .pin⟩ (inMode .loading)).ranges ∧ 65536 ≤ r.last) :=
  ⟨all_entries (by decide +kernel), ⟨0, 65536, .pin⟩, by decide +kernel, by decide⟩

/-- One LOAD SLOTS record: slot, state, flags, chunk, valid set, dirty set. -/
def slotBytes (slot state flags chunk valid dirty : Nat) : Nat :=
  slot + state * 2 ^ 16 + flags * 2 ^ 24 + chunk * 2 ^ 64 + valid * 2 ^ 96 + dirty * 2 ^ 352

theorem test_meets_LoadSlots :
    (∀ p ∈ [slotBytes 63 0 0 0 0 0, slotBytes 63 1 1 255 1 1],
      HeadIs .loadSlots (loaded 34 1 p) [] (atHead (loaded 34 1 p) (inMode .loading)) ∧
      headerField (loaded 34 1 p) 4 1 = 1 ∧ (slotLoad (loaded 34 1 p) 0).slot = 63) ∧
    slotLoad (loaded 34 1 (slotBytes 63 0 0 0 0 0)) 0 = ⟨63, 0, false, 0, 0#256, 0#256⟩ ∧
    slotLoad (loaded 34 1 (slotBytes 63 1 1 255 1 1)) 0 = ⟨63, 1, true, 255, 1#256, 1#256⟩ ∧
    (inMode .loading).map.slotOf 255 = none ∧ headerField (loaded 34 0 0) 4 1 = 0 ∧ headerField (loaded 34 5 0) 4 1 = 5 ∧
    (loadRecords (slotLoads (loaded 34 1 (slotBytes 64 0 0 0 0 0)) 1) 0 (inMode .loading)).isLeft = true := by
  unfold HeadIs; decide +kernel

/-- A LOAD SLOTS descriptor of four records. -/
def fourLoads (third : Nat) : Descriptor :=
  loaded 34 4 (slotBytes 0 1 1 9 1 1 + slotBytes 1 1 1 10 1 0 * 2 ^ 864 + third * 2 ^ 1728 +
    slotBytes 0 0 0 0 0 0 * 2 ^ 2592)

/-- Four records are written in order, a later one of the same slot over an earlier; the third refused refuses all. -/
theorem test_meets_LoadSlots_four :
    (∀ p ∈ [slotBytes 63 1 1 255 1 1, slotBytes 63 1 1 9 1 1],
      HeadIs .loadSlots (fourLoads p) [] (atHead (fourLoads p) (inMode .loading)) ∧ headerField (fourLoads p) 4 1 = 4) ∧
    ((after (exec .loadSlots (atHead (fourLoads (slotBytes 63 1 1 255 1 1)) (inMode .loading)))).map.slots.map (·.chunk)).filter
      (·.isSome) = [some 10, some 255] ∧
    (after (exec .loadSlots (atHead (fourLoads (slotBytes 63 1 1 9 1 1)) (inMode .loading)))).map.freeCount = 64 ∧
    ((after (exec .loadSlots (atHead (fourLoads (slotBytes 63 1 1 9 1 1)) (inMode .loading)))).link.sent.map
      (fun c => (c.status, c.result))) = [(.duplicateChunk, .fields [some 2])] := by
  unfold HeadIs; decide +kernel

theorem test_meets_SetParameters :
    (∀ n ∈ [1, 10, 16, 20, 54], HeadIs .setParameters (cmd 35 (n + 65536) 7) [] (atHead (cmd 35 (n + 65536) 7) part) ∧
      headerField (cmd 35 (n + 65536) 7) 6 1 = 1 ∧ headerField (cmd 35 (n + 65536) 7) 4 2 = n ∧
      (ParamId.ofNumber n).isSome = true ∧ headerField (cmd 35 n) 6 1 ≠ 1) ∧
    (∀ n ∈ [0, 11, 15, 55], ParamId.ofNumber n = none) := by unfold HeadIs; decide +kernel

theorem test_meets_SetParameters_spelled :
    (∀ n ∈ [9, 10, 21, 22, 32, 33, 34, 35, 36, 37, 48, 49, 50, 51, 52, 53, 54], ∀ v ∈ [0, 1, 2, 2 ^ 32 - 1],
      HeadIs .setParameters (cmd 35 (n + 65536) v) [] (atHead (cmd 35 (n + 65536) v) part) ∧
      headerField (cmd 35 (n + 65536) v) 4 2 = n ∧ headerField (cmd 35 (n + 65536) v) 6 1 = 1 ∧
      headerField (cmd 35 (n + 65536) v) 8 4 = v) ∧
    part.params.candidateMode = .rollover ∧
    ({ part.params with candidateMode := .single } : Params).candidateMode = .single := by unfold HeadIs; decide +kernel

theorem test_meets_HeatParametersClamped : ∀ n ∈ [1, 2, 3, 4, 5, 6, 7, 8, 9, 10],
    HeadIs .setParameters (cmd 35 (n + 65536) 65536) [] (atHead (cmd 35 (n + 65536) 65536) part) ∧
    headerField (cmd 35 (n + 65536) 65536) 4 2 = n ∧ headerField (cmd 35 (n + 65536) 65536) 6 1 = 1 := by
  unfold HeadIs; decide +kernel

theorem test_meets_MarksClamped : ∀ n ∈ [16, 17, 18, 19, 20], part.map.slotCount ≠ 0 ∧ State.reset.map.slotCount = 0 ∧
    HeadIs .setParameters (cmd 35 (n + 65536) 65) [] (atHead (cmd 35 (n + 65536) 65) part) ∧
    HeadIs .setParameters (cmd 35 (n + 65536) 65) [] (atHead (cmd 35 (n + 65536) 65) State.reset) ∧
    headerField (cmd 35 (n + 65536) 65) 4 2 = n ∧ headerField (cmd 35 (n + 65536) 65) 6 1 = 1 := by
  unfold HeadIs; decide +kernel

/-- A LOAD RANGE descriptor. -/
def rangeLoad (i code lo hi : Nat) : Descriptor := loaded 36 (i + 256 * code) (lo + hi * 2 ^ 64)

theorem test_meets_LoadRange :
    (∀ p ∈ [(0, 0, 0, 0), (31, 0, 0, 0), (0, 1, 0, 65535), (31, 3, 65535, 65535), (32, 1, 0, 0), (0, 4, 0, 0), (0, 1, 1, 0),
        (0, 1, 0, 65536)],
      HeadIs .loadRange (rangeLoad p.1 p.2.1 p.2.2.1 p.2.2.2) [] (atHead (rangeLoad p.1 p.2.1 p.2.2.1 p.2.2.2) part) ∧
      headerField (rangeLoad p.1 p.2.1 p.2.2.1 p.2.2.2) 4 1 = p.1 ∧
      headerField (rangeLoad p.1 p.2.1 p.2.2.1 p.2.2.2) 5 1 = p.2.1 ∧
      payloadField (rangeLoad p.1 p.2.1 p.2.2.1 p.2.2.2) 0 6 = p.2.2.1 ∧
      payloadField (rangeLoad p.1 p.2.1 p.2.2.1 p.2.2.2) 8 6 = p.2.2.2) ∧
    rangeBelow part.ranges 31 = none ∧ rangeAbove part.ranges 0 = none ∧ (inMode .flashLost).sup.mode = .flashLost ∧
    rangeBelow (ranged 0 ⟨0, 9, .pin⟩ part).ranges 1 = some ⟨0, 9, .pin⟩ ∧
    rangeAbove (ranged 1 ⟨5, 9, .pin⟩ part).ranges 0 = some ⟨5, 9, .pin⟩ := by unfold HeadIs; decide +kernel

theorem test_meets_ClearHeat : ∀ v ∈ [0, 1, 2], HeadIs .clearHeat (cmd 37 v) [] (atHead (cmd 37 v) part) ∧
    headerField (cmd 37 v) 4 1 = v := by unfold HeadIs; decide +kernel

theorem test_meets_HoldBlocks : ∀ p ∈ [(0, 31), (31, 0), (0, 0)],
    HeadIs .holdBlocks (cmd 50 p.2) []
      (atHead (cmd 50 p.2) { part with sup := { part.sup with holds := BitVec.ofNat 5 p.1 } }) ∧
    headerField (cmd 50 p.2) 4 1 = p.2 ∧ part.mover.ctx0 = none ∧ part.mover.ctx1 = none := by
  unfold HeadIs; decide +kernel

/-- A POST JOB descriptor. -/
def jobPost (action chunk : Nat) : Descriptor := cmd 38 action chunk

/-- Chunk 255 is bound to slot 63, dirty; or pinned. -/
def bound255 : State := bind 63 (resident 255 1#256 1#256) part
def pinned255 : State := bind 63 { resident 255 1#256 1#256 with pinned := true } part

theorem test_meets_PostJob :
    (∀ p ∈ [(1, 255), (2, 255), (3, 255), (0, 0), (4, 0), (1, 256)],
      HeadIs .postJob (jobPost p.1 p.2) [] (atHead (jobPost p.1 p.2) bound255) ∧
      headerField (jobPost p.1 p.2) 4 1 = p.1 ∧ headerField (jobPost p.1 p.2) 8 4 = p.2) ∧
    isDuplicate bound255 ⟨.flush, .chunk 255⟩ = false ∧ isDuplicate part ⟨.fill, .chunk 255⟩ = false ∧
    bound255.map.slotOf 255 = some 63 ∧ part.map.slotOf 255 = none ∧ (inMode .loading).sup.mode = .loading ∧
    (pinned255.map.bound 255).any (fun e => e.2.pinned) = true ∧
    isDuplicate (queued .directed [⟨.fill, .chunk 9⟩] part) ⟨.fill, .chunk 9⟩ = true ∧
    isDuplicate (queued .directed (List.replicate 8 ⟨.fill, .chunk 9⟩) part) ⟨.fill, .chunk 8⟩ = false ∧
    (queued .directed (List.replicate 8 ⟨.fill, .chunk 9⟩) part).arbiter.queues.directed.length = 8 := by
  unfold HeadIs; decide +kernel

theorem test_meets_ArbiterCommands :
    (∀ k ∈ [0, 4, 5], HeadIs .ackJob (cmd 39 k) [] (atHead (cmd 39 k) (serving .flushUrgent .awaitAck part)) ∧
      HeadIs .setLowest (cmd 40 k) [] (atHead (cmd 40 k) part) ∧ headerField (cmd 39 k) 4 1 = k) ∧
    (serving .flushUrgent .awaitAck part).arbiter.service.get .flushUrgent = .awaitAck ∧
    part.arbiter.service.get .flushUrgent ≠ .awaitAck ∧ JobClass.ofNumber 0 = some .flushUrgent ∧
    JobClass.ofNumber 4 = some .flushIdle ∧ HeadIs .setMask (cmd 41 255) [] (atHead (cmd 41 255) part) := by
  unfold HeadIs; decide +kernel

theorem test_meets_SpinUp : (∀ st ∈ [SpindleState.stopped, .starting, .running, .stopping],
      HeadIs .spinUp (cmd 44) [] (atHead (cmd 44) (withSpindle st part)) ∧ (withSpindle st part).spindle.state = st ∧
      (withSpindle st part).spindle.pendingSpinDown = false) ∧
    part.spindle.retryTimer = none ∧ part.disk.status = .ready ∧ State.reset.disk.status = .probing ∧
    HeadIs .spinUp (cmd 44) [] (atHead (cmd 44) State.reset) ∧
    ({ part.spindle with retryTimer := some 5000 } : Spindle).retryTimer.isSome = true := by unfold HeadIs; decide +kernel

theorem test_meets_SpinDown : (∀ st ∈ [SpindleState.stopped, .starting, .running, .stopping],
      HeadIs .spinDown (cmd 45) [] (atHead (cmd 45) (withSpindle st part))) ∧
    running.disk.list = [] ∧ moverUsesDisk running = false ∧ (onDisk [diskPiece 9 .orphan .sent] running).disk.list ≠ [] := by
  unfold HeadIs; decide +kernel

theorem test_meets_PortRestart : (∀ p ∈ [0, 1, 2], HeadIs .portRestart (cmd 46 p) [] (atHead (cmd 46 p) part) ∧
      headerField (cmd 46 p) 4 1 = p) ∧ part.flash.status ≠ .faulted ∧ part.disk.status ≠ .faulted ∧
    (∀ p ∈ [0, 1], HeadIs .portRestart (cmd 46 p) [] (atHead (cmd 46 p) { part with
      flash := { part.flash with status := .faulted }, disk := { part.disk with status := .faulted } })) := by
  unfold HeadIs; decide +kernel

theorem test_meets_Enable : (∀ st ∈ [PortStatus.ready, .faulted, .probing],
      HeadIs .enable (cmd 53) [] (atHead (cmd 53) { inMode .loading with
        flash := { part.flash with status := st } })) ∧
    (inMode .loading).sup.mode = .loading ∧ (inMode .loading).map.slotCount ≠ 0 ∧
    HeadIs .enable (cmd 53) [] (atHead (cmd 53) part) ∧ part.sup.mode ≠ .loading ∧
    HeadIs .enable (cmd 53) [] (atHead (cmd 53) State.reset) ∧ State.reset.map.slotCount = 0 := by
  unfold HeadIs; decide +kernel

theorem test_meets_event_end : part.link.headHold = none ∧ part.map.slotCount ≠ 0 ∧ part.held .reclaimer = false ∧
    State.reset.map.slotCount = 0 ∧ (∃ x ∈ (onDisk [diskPiece 9 .orphan .waiting] part).disk.list, x.state = .waiting) ∧
    part.spindle.state = .stopped ∧ part.disk.status = .ready ∧ part.spindle.retryTimer = none ∧
    (withSpindle .stopping part).spindle.state = .stopping ∧ running.spindle.pendingSpinDown = false ∧
    running.spindle.state = .running ∧ running.disk.list = [] ∧ moverUsesDisk running = false ∧
    running.params.idleDelay ≠ 0 ∧ running.held .spindleAutoStop = false := by decide +kernel

/-! The Router. -/

theorem test_meets_RouteTrim :
    frontCommand (routing (command .trim 255 2) part) = some (command .trim 255 2) ∧
    fallbackFirst (routing (command .trim 255 2) part) = false ∧ 255 + min (256 - 255 % 256) 2 < 255 + 2 ∧
    frontCommand (routing (command .trim 255 1) part) = some (command .trim 255 1) ∧
    fallbackFirst (routing (command .trim 255 1) part) = false ∧ 255 + 1 ≤ 255 + min (256 - 255 % 256) 1 := by
  decide +kernel

theorem test_meets_RouteDiskPortion : ∀ s ∈ [routing (command .read 255 2) part,
      routing (command .write 255 2) (inMode .flashLost), routing (command .write 255 2) running],
    (frontCommand s).any (fun r => s.map.bound (r.cursor / 256) == none &&
      (r.kind == .read || r.kind == .write && (s.sup.mode == .flashLost || absorbs s r == false))) = true ∧
    fallbackFirst s = false ∧ freeRecords s ≠ 0 ∧ s.disk.status ≠ .faulted ∧ s.spindle.retryTimer = none := by
  decide +kernel

theorem test_meets_RouteFlashWrite :
    (∀ s ∈ [routing (command .write 65280 256) bound255, routing (command .write 65280 256) part],
      frontCommand s = some (command .write 65280 256) ∧ fallbackFirst s = false ∧ s.sup.mode = .online ∧
      freeRecords s ≠ 0 ∧ s.flash.status ≠ .faulted) ∧
    ((routing (command .write 65280 256) bound255).map.bound 255).isSome = true ∧
    (routing (command .write 65280 256) part).map.bound 255 = none ∧
    absorbs (routing (command .write 65280 256) part) (command .write 65280 256) = true ∧
    (routing (command .write 65280 256) part).map.lowestFree = some 0 := by decide +kernel

theorem test_meets_RouteSync : (∀ s ∈ [routing (command .sync 0 0) part, routing (command .sync 0 0) running,
      routing (command .sync 0 0) (inMode .flashLost), routing (command .sync 0 0) (withSpindle .running (inMode .flashLost))],
      frontCommand s = some (command .sync 0 0) ∧ fallbackFirst s = false ∧ s.flash.status ≠ .faulted ∧
      s.disk.status ≠ .faulted ∧ s.spindle.retryTimer = none ∧ 2 ≤ freeRecords s) := by decide +kernel

theorem test_meets_FallbackPieceMade : fallbackFirst part = false ∧
    freeRecords (routing { command .read 0 9 with fallbackList := [(4, 2)] } part) ≠ 0 ∧
    (routing { command .read 0 9 with fallbackList := [(4, 2)] } part).commands =
      [] ++ { command .read 0 9 with fallbackList := [(4, 2)] } :: [] ∧
    part.disk.status ≠ .faulted ∧ part.spindle.retryTimer = none := by decide +kernel

/-! The Heat Unit. -/

def anAccess : Access := ⟨7, false, 1, 1#8, .normal⟩

/-- An entry for region 7 at index 0. -/
def heated (e : HeatEntry) (s : State) : State := putHeat 0 (some e) s

def full (e : HeatEntry) (s : State) : State :=
  { s with heat := { s.heat with entries := List.replicate 1024 (some e), usedCount := 1024, victim := some 0 } }

def accessed (s : State) : State := { s with accesses := [anAccess] }

theorem test_meets_AccessTaken : part.accesses = [] ∧ (accessed part).accesses = [anAccess] ∧
    (accessed part).held .heat = false ∧
    ({ accessed part with sup := { part.sup with holds := 1#5 } } : State).held .heat = true ∧
    (heated ⟨7, 65535, .promoted, 0, 0#8⟩ (accessed part)).heatEntry 0 = some ⟨7, 65535, .promoted, 0, 0#8⟩ ∧
    (accessed part).heat.entries[0]? = some none ∧ part.sup.mode ≠ .loading := by decide +kernel

theorem test_meets_AccessTaken_no_entry : ∀ (j : Nat) (f : HeatEntry), (accessed part).heatEntry j = some f → f.region ≠ 7 := by
  intro j f h
  have e : (accessed part).heat.entries = List.replicate 1024 none := rfl
  simp only [State.heatEntry, e, List.getElem?_replicate] at h
  split at h <;> cases h

theorem test_meets_AccessTaken_full : (∀ j : Nat, (full ⟨9, 15, .tracked, 0, 0#8⟩ part).heat.entries[j]? ≠ some none) ∧
    (full ⟨9, 15, .tracked, 0, 0#8⟩ part).heat.victim = some 0 ∧
    (full ⟨9, 15, .tracked, 0, 0#8⟩ part).heatEntry 0 = some ⟨9, 15, .tracked, 0, 0#8⟩ ∧ part.params.admitBar = 16 := by
  refine ⟨fun j => ?_, rfl, rfl, rfl⟩
  have e : (full ⟨9, 15, .tracked, 0, 0#8⟩ part).heat.entries = List.replicate 1024 (some ⟨9, 15, .tracked, 0, 0#8⟩) := rfl
  rw [e, List.getElem?_replicate]
  split <;> simp

theorem test_meets_SweepVisit : part.heat.tick ≠ none ∧ part.heatEntry 0 = none ∧
    ({ part with heat := { part.heat with tick := none } } : State).heat.tick = none ∧
    (heated ⟨7, 1, .tracked, 0, 0#8⟩ part).heatEntry 0 = some ⟨7, 1, .tracked, 0, 0#8⟩ ∧
    1 - max 1 (1 / 2 ^ part.params.decayShift) = 0 ∧ 2 - max 1 (2 / 2 ^ part.params.decayShift) ≠ 0 := by decide +kernel

/-! Retag walk, Pin Scanner, Job Arbiter, Mover. -/

theorem test_meets_RetagVisit : part.walk = none ∧ ({ part with walk := some 62 } : State).walk = some 62 ∧
    62 + 1 < part.map.slotCount ∧ part.map.slotCount ≤ 63 + 1 ∧
    (held .loadRange part).link.headHold = some ⟨5, .loadRange⟩ := by decide +kernel

/-- A PIN entry over chunks 1 to 3, with the scanner at chunk `c`. -/
def scanning (c : Nat) : State :=
  { ranged 0 ⟨256, 1023, .pin⟩ { part with params := { part.params with pinLimit := 4 } } with scanner := .scanning 0 c .none }

theorem test_meets_PinScannerExamination :
    (scanning 3).scanner = .scanning 0 3 .none ∧ (scanning 3).ranges[0]? = some (some ⟨256, 1023, .pin⟩) ∧
    (scanning 3).map.bound 3 = none ∧ chunkIn (scanning 3) .bypass 3 = false ∧ anyJobNames (scanning 3) 3 = false ∧
    (scanning 3).map.pinnedCount < (scanning 3).params.pinLimit ∧ (scanning 3).sup.mode ≠ .loading ∧
    (queued .pinFill (List.replicate 16 ⟨.fill, .chunk 99⟩) (scanning 3)).arbiter.queues.pinFill.length = 16 ∧
    anyJobNames (queued .directed [⟨.fill, .chunk 3⟩] (scanning 3)) 3 = true ∧ part.scanner = .idle := by decide +kernel

/-- A Directed FILL of chunk 2 at the front of its queue. -/
def toGrant : State := queued .directed [⟨.fill, .chunk 2⟩] part

theorem test_meets_grants : nextGrant toGrant = some .directed ∧ nextGrant part = none ∧ toGrant.mover.ctx0 = none ∧
    toGrant.mover.ctx1 = none ∧ toGrant.arbiter.queues.get .directed = [⟨.fill, .chunk 2⟩] ∧
    chunkIn toGrant .bypass 2 = false ∧ toGrant.map.bound 2 = none ∧ toGrant.map.lowestFree = some 0 ∧
    freeRecords toGrant ≠ 0 ∧ toGrant.disk.status ≠ .faulted ∧ toGrant.spindle.retryTimer = none := by decide +kernel

theorem test_meets_GrantStartsFill_service : ∀ x j c, toGrant.arbiter.service.get x ≠ .job .active j c := by
  intro x j c; cases x <;> exact nofun

/-- A Hot-Fill ACTIVE in context 0 with piece 9 outstanding, and a Directed job that outranks it. -/
def suspendable : State :=
  serving .hotFill (.job .active ⟨.fill, .chunk 2⟩ .ctx0) (moving { filling with piece := some 9, poolWait := false } toGrant)

theorem test_meets_GrantAsksToSuspend : nextGrant suspendable = some .directed ∧
    suspendable.arbiter.queues.get .directed = [⟨.fill, .chunk 2⟩] ∧
    suspendable.arbiter.service.get .hotFill = .job .active ⟨.fill, .chunk 2⟩ .ctx0 ∧
    (suspendable.ctx .ctx0).bind (·.piece) = some 9 ∧ CtxId.ctx1 ≠ .ctx0 := by decide +kernel

theorem test_meets_GrantAsksToSuspend_service :
    ∀ y j'' c'', y ≠ .hotFill → suspendable.arbiter.service.get y ≠ .job .active j'' c'' := by
  intro y j c h; cases y <;> first | exact absurd rfl h | exact nofun

/-- A fill in pool wait, alone in service: offsets 3 to 200 of its slot are not valid. -/
def waitingPool : State :=
  serving .hotFill (.job .active ⟨.fill, .chunk 2⟩ .ctx0)
    (moving filling (bind 5 { resident 2 (~~~(rangeSet 3 198)) 0#256 with state := .filling } part))

theorem test_meets_ContextEvents : freeRecords waitingPool ≠ 0 ∧ (waitingPool.slot 5).valid.getLsbD 3 = false ∧
    (waitingPool.slot 5).valid.getLsbD 200 = false ∧ (∀ k < 3, (waitingPool.slot 5).valid.getLsbD k = true) ∧
    (∀ k < 256, 200 < k → (waitingPool.slot 5).valid.getLsbD k = true) ∧ waitingPool.ctx .ctx0 = some filling ∧
    waitingPool.arbiter.service.get .hotFill = .job .active ⟨.fill, .chunk 2⟩ .ctx0 ∧ filling.watchdog ≠ none ∧
    filling.abort = none ∧ waitingPool.held .mover = false ∧ waitingPool.params.pacing.get .hotFill = .auto ∧
    part.ctx .ctx0 = none ∧ waitingPool.disk.status ≠ .faulted ∧ waitingPool.spindle.retryTimer = none := by decide +kernel

theorem test_meets_ContextEvents_service : ∀ y j' c', waitingPool.arbiter.service.get y ≠ .job .suspended j' c' := by
  intro y j c; cases y <;> exact nofun

theorem test_meets_ContextEvents_piece :
    ({ filling with piece := some 9 } : Context).piece = some 9 ∧
    (onFlash [flashPiece 9 (.context .ctx0) .sent] part).flash.list = [] ++ flashPiece 9 (.context .ctx0) .sent :: [] ∧
    (flashPiece 9 (.context .ctx0) .sent).state = .sent := by decide +kernel

/-- Mover enters the hold set alone, with a job in context 0 and none in context 1. -/
theorem test_meets_HoldBlocks_mover :
    HeadIs .holdBlocks (cmd 50 (2 ^ Block.mover.bit)) [] (atHead (cmd 50 (2 ^ Block.mover.bit)) waitingPool) ∧
    (∀ b ∈ [Block.heat, .pinScanner, .mover, .reclaimer, .spindleAutoStop], waitingPool.held b = false ∧
      ((BitVec.ofNat 5 (headerField (cmd 50 (2 ^ Block.mover.bit)) 4 1)).getLsbD b.bit = true ↔ b = .mover)) ∧
    waitingPool.mover.ctx0 = some filling ∧ waitingPool.mover.ctx1 = none ∧ filling.abort = none ∧ filling.piece = none ∧
    filling.slot = some 5 ∧ ({ filling with piece := some 9 } : Context).piece = some 9 ∧
    (flashPiece 9 (.context .ctx0) .sent).state = .sent := by unfold HeadIs; decide +kernel

/-! Ports, spindle, Reclaimer. -/

theorem test_meets_DiscardedMessages : State.reset.flash.status ≠ .ready ∧ 3 < (4#8).toNat ∧
    (∀ x ∈ (onFlash [flashPiece 9 .orphan .waiting] part).flash.list, x.id = (9#8).toNat → x.state = .waiting) ∧
    (9#8).toNat ∉ part.flash.withheld ∧ part.flash.status = .ready ∧ (3#8).toNat ≤ 3 ∧
    (9#8).toNat ∈ ({ part.flash with withheld := [9] } : PortUnit).withheld := by decide +kernel

/-- A host write's piece to offsets 7 to 9 of slot 5, chunk 2, with its command. -/
def hostWrite (r : CommandRec) : State :=
  onFlash [flashPiece 9 (.command 3) .sent] (bind 5 { resident 2 896#256 896#256 with inflight := 1 } { part with commands := [r] })

theorem test_meets_HostPieceCompletion :
    (∀ r ∈ [{ command .write 519 3 with outstanding := 1, routingDone := true }, { command .write 519 3 with outstanding := 1 }],
      (hostWrite r).flash.status = .ready ∧ (hostWrite r).flash.list = [] ++ flashPiece 9 (.command 3) .sent :: [] ∧
      (hostWrite r).commands = [] ++ r :: [] ∧ ((hostWrite r).slot 5).chunk = some 2 ∧ r.outstanding - 1 = 0 ∧
      r.fallbackList = [] ∧ r.tag = 3) ∧
    (flashPiece 9 (.command 3) .sent).id = (9#8).toNat ∧ (flashPiece 9 (.command 3) .sent).target = .flash 5 7 ∧
    (3#8).toNat ≤ 3 := by decide +kernel

/-- A host read's piece of offsets 7 to 9 of slot 5, chunk 2, where offset 7 is dirty. -/
def hostRead : State :=
  onFlash [{ flashPiece 9 (.command 3) .sent with op := .read }]
    (bind 5 { resident 2 896#256 128#256 with inflight := 1 }
      { part with commands := [{ command .read 519 3 with outstanding := 1, routingDone := true }] })

theorem test_meets_HostPieceCompletion_other :
    (onDisk [diskPiece 9 (.command 3) .sent] running).disk.list = [] ++ diskPiece 9 (.command 3) .sent :: [] ∧
    hostRead.flash.status = .ready ∧ hostRead.disk.status ≠ .faulted ∧ hostRead.spindle.retryTimer = none ∧
    (hostRead.slot 5).chunk = some 2 ∧
    (∀ e ∈ [0, 1, 2], (runs (rangeSet (7 + e) (3 - e) &&& ~~~(hostRead.slot 5).dirty)).length = 1) ∧
    lowest (rangeSet 7 3 &&& (hostRead.slot 5).dirty) = some 7 ∧ lowest (rangeSet 8 2 &&& (hostRead.slot 5).dirty) = none ∧
    freeRecords { hostRead with flash := { hostRead.flash with list := [] } } ≠ 0 := by decide +kernel

theorem test_meets_PieceTimeout : (∀ st ∈ [PieceState.sent, .aborting],
      (onFlash [flashPiece 9 .orphan st] part).flash.list = [] ++ flashPiece 9 .orphan st :: [] ∧
      (flashPiece 9 .orphan st).timer ≠ none ∧ (flashPiece 9 .orphan st).id = (9#8).toNat) ∧
    part.flash.timeouts + 1 < 3 ∧ 3 ≤ ({ part.flash with timeouts := 2 } : PortUnit).timeouts + 1 := by decide +kernel

theorem test_meets_ProbeEnds : part.flash.status ≠ .probing ∧ part.flash.probeTimer = none ∧
    State.reset.flash.status = .probing ∧ State.reset.sup.enableWaiting = false ∧ State.reset.sup.mode ≠ .flashLost ∧
    State.reset.link.headHold = none ∧ (held (.portRestart .flash) State.reset).link.headHold = some ⟨5, .portRestart .flash⟩ ∧
    State.reset.disk.status = .probing ∧ (0#8 : Byte) ≠ 1#8 ∧ State.reset.mover.ctx0 = none ∧ State.reset.mover.ctx1 = none ∧
    State.reset.flash.probeTimer ≠ none ∧ State.reset.flash.list = [] ∧ State.reset.disk.probeTimer ≠ none ∧
    State.reset.disk.list = [] := by decide +kernel

theorem test_meets_ProbeEnds_waiting :
    (held .enable { State.reset with sup := { State.reset.sup with enableWaiting := true } }).link.headHold = some ⟨5, .enable⟩ ∧
    ({ State.reset with sup := { State.reset.sup with mode := .flashLost } } : State).sup.mode = .flashLost ∧
    (held (.portRestart .disk) State.reset).link.headHold = some ⟨5, .portRestart .disk⟩ := by decide +kernel

theorem test_meets_Halt : State.reset.disk.status ≠ .ready ∧ part.disk.status = .ready ∧ part.link.headHold = none ∧
    (∀ st ∈ [SpindleState.stopped, .starting, .running, .stopping],
      (withSpindle st part).spindle.state = st ∧ (withSpindle st part).disk.list = []) := by decide +kernel

/-- Two disk pieces behind a START: one caught SENT by a HALT, one that waits. -/
def starting : State := { withSpindle .starting (onDisk
    [{ diskPiece 8 .orphan .sent with timer := none }, { diskPiece 9 .orphan .waiting with timer := none }] part) with
  spindle := { part.spindle with state := .starting, startTimer := some 20000 } }

theorem test_meets_StartEnds : part.spindle.state ≠ .starting ∧ 1 < (2#8).toNat ∧ starting.spindle.state = .starting ∧
    starting.disk.status = .ready ∧ (starting.disk.list.map (·.id)).Nodup ∧
    (∀ x ∈ starting.disk.list, x.state = .sent → x.retryUsed = false ∧ x.owner = .orphan) ∧
    (onDisk [] starting).disk.list = [] ∧ starting.link.headHold = none ∧ starting.spindle.startTimer ≠ none ∧
    part.spindle.startTimer = none := by decide +kernel

theorem test_meets_StopEnds : part.spindle.state ≠ .stopping ∧ (withSpindle .stopping part).spindle.state = .stopping ∧
    part.link.headHold = none ∧ ({ part.spindle with startTimer := some 20000 } : Spindle).startTimer ≠ none ∧
    (held (.spinDown .waiting) (withSpindle .stopping part)).link.headHold = some ⟨5, .spinDown .waiting⟩ := by decide +kernel

/-- The hand MOVING at slot 0, which has the record `r`, with a duty set. -/
def examining (d : Duties) (r : SlotRec) : State :=
  { bind 0 r part with reclaimer := { part.reclaimer with duties := d, condition := .moving } }

theorem test_meets_ReclaimerExamination : part.reclaimer.condition ≠ .moving ∧ part.sup.mode ≠ .loading ∧
    (∀ p ∈ [(Duties.mk true false false, SlotRec.free), (⟨true, false, false⟩, resident 2 0#256 0#256),
        (⟨false, true, false⟩, resident 2 1#256 1#256), (⟨true, false, false⟩, { resident 2 1#256 0#256 with referenced := true }),
        (⟨true, false, false⟩, resident 2 1#256 0#256), (⟨true, false, false⟩, resident 2 1#256 1#256),
        (⟨false, false, true⟩, resident 2 1#256 1#256), (⟨false, true, false⟩, resident 2 1#256 0#256),
        (⟨true, false, false⟩, { resident 2 1#256 0#256 with pinned := true })],
      (examining p.1 p.2).reclaimer.condition = .moving ∧ (examining p.1 p.2).slot 0 = p.2) ∧
    (queued .flushUrgent (List.replicate 32 ⟨.flush, .slot 9⟩) part).arbiter.queues.flushUrgent.length = 32 := by
  decide +kernel

theorem test_meets_TimerExpiries : part.spindle.retryTimer = none ∧
    ({ part.spindle with retryTimer := some 5000 } : Spindle).retryTimer ≠ none ∧ part.spindle.idleTimer = none ∧
    ({ running.spindle with idleTimer := some 8000 } : Spindle).idleTimer ≠ none ∧ running.spindle.state = .running ∧
    part.reclaimer.idleFlushTimer = none ∧ ({ part.reclaimer with idleFlushTimer := some 200 } : Reclaimer).idleFlushTimer ≠ none ∧
    part.map.dirtyCount = 0 ∧ bound255.map.dirtyCount ≠ 0 ∧ bound255.arbiter.queues.flushIdle = [] ∧
    bound255.reclaimer.duties.idle = false := by decide +kernel

theorem test_meets_invariants : step State.reset = .next State.reset ∧
    (step { State.reset with pending := [.descriptorArrival (cmd 32)] } matches .next _) = true := ⟨rfl, rfl⟩

/-! ### Widened statements: the clauses that the states above do not meet -/

/-- The status and result of the last completion record sent. -/
def lastReply (a : Answer) : Option (Status × Option Nat × Result) :=
  (after a).link.sent.getLast?.map (fun c => (c.status, c.errorLba, c.result))

/-- An active fill with piece 9 outstanding, held out by a Mover hold. -/
def heldMover : State :=
  let s := serving .hotFill (.job .active ⟨.fill, .chunk 2⟩ .ctx0)
    (moving { filling with piece := some 9, poolWait := false, abort := some .held }
      (onDisk [diskPiece 9 (.context .ctx0) .aborting] running))
  { s with sup := { s.sup with holds := BitVec.ofNat 5 (2 ^ Block.mover.bit) } }

/-- The Mover's release stops a watchdog that still runs, and nothing of the job (R145). -/
theorem test_meets_HoldBlocks_release : HeadIs .holdBlocks (cmd 50 0) [] (atHead (cmd 50 0) heldMover) ∧
    heldMover.held .mover = true ∧ (headerField (cmd 50 0) 4 1) = 0 ∧
    ((heldMover.ctx .ctx0).bind (·.watchdog)).isSome = true ∧
    (after (exec .holdBlocks (atHead (cmd 50 0) heldMover))).ctx .ctx0 =
      some { filling with piece := some 9, poolWait := false, abort := some .held, watchdog := none } := by
  unfold HeadIs; decide +kernel

/-- The Pin Scanner stalls at chunk 3 with 16 fills queued, or because the pinned count and the queue reach P = 4. -/
def stalledFull : State :=
  { queued .pinFill (List.replicate 16 ⟨.fill, .chunk 99⟩) { scanning 3 with
    params := { part.params with pinLimit := 40 } } with scanner := .scanning 0 3 (.stalled false) }
def stalledLimit : State :=
  { queued .pinFill (List.replicate 4 ⟨.fill, .chunk 99⟩) (scanning 3) with scanner := .scanning 0 3 (.stalled true) }

theorem test_meets_EventEndFrame : stalledFull.stalls = true ∧ stalledLimit.stalls = true ∧ part.stalls = false ∧
    (settle part stalledFull).scanner = .scanning 0 3 (.stalled false) ∧
    (settle part stalledLimit).scanner = .scanning 0 3 (.stalled true) ∧
    (settle part (queued .pinFill (List.replicate 3 ⟨.fill, .chunk 99⟩) stalledLimit)).scanner = .scanning 0 3 .none ∧
    (settle part { stalledLimit with scanner := .scanning 0 3 (.stalled false) }).sup.flags = 128#12 ∧
    (settle part stalledLimit).sup.flags = 0#12 := by decide +kernel

/-- A Pin-Fill at the front of a full queue, behind it 15 more, and the scanner stalled at chunk 3. -/
def pinGrant (limit : Nat) : State :=
  withSpindle .running { queued .pinFill (⟨.fill, .chunk 2⟩ :: List.replicate 15 ⟨.fill, .chunk 99⟩)
    { scanning 3 with params := { part.params with pinLimit := limit } } with
    scanner := .scanning 0 3 (.stalled (limit == 16)) }

/-- The grant ends a stall for want of queue room: chunk 3 is posted before the fill binds (R61); at P = 15 the
condition still holds, and the stall goes on. -/
theorem test_meets_GrantStartsFill_stall : (∀ P ∈ [15, 16, 40], nextGrant (pinGrant P) = some .pinFill ∧
      (pinGrant P).mover.ctx0 = none ∧ (pinGrant P).mover.ctx1 = none ∧
      (pinGrant P).arbiter.queues.pinFill.head? = some ⟨.fill, .chunk 2⟩ ∧ (pinGrant P).stalls = true ∧
      (pinGrant P).map.bound 2 = none ∧ (pinGrant P).map.lowestFree = some 0 ∧ freeRecords (pinGrant P) ≠ 0) ∧
    (after (exec .grant (pinGrant 16))).arbiter.queues.pinFill.getLast? = some ⟨.fill, .chunk 3⟩ ∧
    (after (exec .grant (pinGrant 16))).scanner = .idle ∧
    (after (exec .grant (pinGrant 15))).arbiter.queues.pinFill.length = 15 ∧
    (after (exec .grant (pinGrant 15))).scanner = .scanning 0 3 (.stalled true) := by decide +kernel

/-- A Flush-Urgent FLUSH, or a Directed EVICT, of slot 63, which holds chunk 255. -/
def flushGrant (a : JobAction) (r : SlotRec) : State :=
  if a = .flush then queued .flushUrgent [⟨.flush, .slot 63⟩] (bind 63 { r with queued := true } part)
  else queued .directed [⟨.evict, .chunk 255⟩] (bind 63 { r with queued := true } part)

theorem test_meets_GrantStartsFill_flush :
    (∀ p ∈ [(JobAction.flush, resident 255 3#256 1#256), (.flush, resident 255 3#256 0#256), (.evict, resident 255 3#256 1#256),
        (.evict, resident 255 3#256 0#256), (.evict, { resident 255 3#256 0#256 with inflight := 1 })],
      nextGrant (flushGrant p.1 p.2) = some (if p.1 = .flush then .flushUrgent else .directed) ∧
      ((flushGrant p.1 p.2).slot 63).state = .resident ∧ (flushGrant p.1 p.2).map.slotOf 255 = some 63 ∧
      (flushGrant p.1 p.2).spindle.state = .stopped) ∧
    (after (exec .grant (flushGrant .flush (resident 255 3#256 1#256)))).spindle.state = .starting ∧
    ((after (exec .grant (flushGrant .flush (resident 255 3#256 1#256)))).slot 63).state = .flushing ∧
    ((after (exec .grant (flushGrant .evict (resident 255 3#256 0#256)))).slot 63) = .free ∧
    (after (exec .grant (flushGrant .evict { resident 255 3#256 0#256 with inflight := 1 }))).mover.failure =
      some ⟨.directed, .evict, some 255, some 63, .busy, none, .evictCheck⟩ := by decide +kernel

/-- Needs of the spindle at an event's end, and SPIN UP and SPIN DOWN at the head. -/
def dirtyHigh : State := { bound255 with params := { bound255.params with markDh := 1, markDr := 0 } }
def downPending (s : State) : State :=
  held (.spinDown .waiting) { s with spindle := { s.spindle with pendingSpinDown := true } }

theorem test_meets_EventEndSpindle :
    dirtyHigh.params.markDh ≤ dirtyHigh.map.dirtyCount ∧ dirtyHigh.sup.mode = .online ∧
    (settle part dirtyHigh).spindle.state = .starting ∧
    (settle part (onDisk [diskPiece 9 .orphan .sent] part)).spindle.state = .starting ∧
    (settle part (held .spinUp part)).spindle.state = .starting ∧
    (settle part (held .spinUp (withSpindle .stopping part))).spindle.restartPending = true ∧
    (settle part (downPending running)).spindle.state = .stopping ∧
    (settle part (downPending (onDisk [diskPiece 9 .orphan .sent] running))).spindle.pendingSpinDown = true ∧
    (settle part (held .spinUp running)).link.sent.map (·.result) = [.fields [some 2, some 0]] ∧
    (settle part (held (.spinDown .stopped) part)).link.sent.map (·.result) = [.fields [some 0, some 0]] ∧
    (settle part (held (.spinDown .halted) (onDisk [diskPiece 9 .orphan .waiting] part))).link.sent.map (·.result) =
      [.fields [some 0, some 0]] ∧
    (settle part (held (.spinDown .waiting) (withSpindle .stopping part))).link.sent = [] := by decide +kernel

/-- Portions of chunk 255, of which offset 0 is dirty, in FLASH_LOST. -/
def lostPart (r : CommandRec) : State :=
  routing r { bind 63 (resident 255 7#256 1#256) part with sup := { part.sup with mode := .flashLost } }

theorem test_meets_RouteDiskPortion_lost : (∀ r ∈ [command .read 65280 1, command .read 65281 1, command .write 65280 2],
      frontCommand (lostPart r) = some r ∧ fallbackFirst (lostPart r) = false ∧ freeRecords (lostPart r) ≠ 0 ∧
      ((lostPart r).map.bound 255).isSome = true) ∧
    ((7#256 &&& rangeSet 0 1) &&& 1#256).getLsbD 0 = true ∧ 1#256 &&& rangeSet 1 1 = 0#256 ∧
    lastReply (exec (.routePortion .routeFirst) (lostPart (command .read 65280 1))) =
      some (.media .flashUnavailable, some 65280, .none) ∧
    (after (exec (.routePortion .routeFirst) (lostPart (command .read 65281 1)))).disk.list.map (·.target) = [.disk 65281] ∧
    ((after (exec (.routePortion .routeFirst) (lostPart (command .write 65280 2)))).slot 63).dirty = 0#256 ∧
    ((after (exec (.routePortion .routeFirst) (lostPart (command .write 65280 2)))).slot 63).valid = 4#256 := by
  decide +kernel

/-- A READ of offsets 0 to 3 of chunk 255, of which 1 and 2 are valid. -/
theorem test_meets_ReadPortionSplit :
    let s := routing (command .read 65280 4) (bind 63 (resident 255 6#256 0#256) part)
    frontCommand s = some (command .read 65280 4) ∧ fallbackFirst s = false ∧ (s.map.bound 255).isSome = true ∧
    (readPieces (command .read 65280 4) 63 6#256).length = 3 ∧ 3 ≤ freeRecords s ∧
    (after (exec (.routePortion .routeFirst) s)).flash.list.map (fun x => (x.target, x.count)) = [(.flash 63 1, 2)] ∧
    (after (exec (.routePortion .routeFirst) s)).disk.list.map (fun x => (x.target, x.count)) =
      [(.disk 65280, 1), (.disk 65283, 1)] ∧
    ((after (exec (.routePortion .routeFirst) s)).slot 63).inflight = 1 := by decide +kernel

/-- A Mover piece 9 at port `p`, completing for the job of context `x`, whose slot 5 has the record `r`. -/
def moverPiece (p : Port) (x : Context) (r : SlotRec) (first count : Nat) : State :=
  let q : Piece := ⟨9, .context .ctx0, .read, if p = .flash then .flash 5 first else .disk (512 + first), count,
    .staging .ctx0 first, false, .sent, some 200⟩
  setPort p { running.port p with list := [q] }
    (serving x.cls (.job .active ⟨x.action, if x.action = .flush then .slot 5 else .chunk 2⟩ .ctx0) (moving x (bind 5 r running)))

def fillRead : Context := { filling with piece := some 9, poolWait := false, readSpan := some (3, 200), cursor := 3 }
def flushing (a : JobAction) (ph : Phase) (i : Nat) : Context :=
  { filling with
    cls := .directed, action := a, phase := ph, readSpan := none, snapshot := [⟨1, 2⟩, ⟨6, 1⟩], runIndex := i
    piece := some 9, poolWait := false }

/-- A fill in FILLING, and a flush in FLUSHING whose offset 6 a host has written again or not. -/
def fillSlot : SlotRec := { resident 2 (~~~(rangeSet 3 198)) 0#256 with state := .filling, queued := true }
def flushSlot (redirty : OffsetSet) : SlotRec :=
  { resident 2 (BitVec.allOnes 256) 64#256 with state := .flushing, queued := true, redirty := redirty }

def completed (p : Port) (status : Byte) (s : State) : Answer := exec (.pieceCompletion p 9#8 status 0#8) s

theorem test_meets_ContextEvents_pieces :
    (∀ s ∈ [moverPiece .disk fillRead fillSlot 3 198, moverPiece .flash { fillRead with phase := .flashWrite, cursor := 201 } fillSlot 3 198,
        moverPiece .flash (flushing .flush .flashRead 1) (flushSlot 0#256) 6 1,
        moverPiece .disk (flushing .flush .diskWrite 0) (flushSlot 0#256) 1 2,
        moverPiece .disk (flushing .evict .diskWrite 1) (flushSlot 0#256) 6 1,
        moverPiece .disk (flushing .evict .diskWrite 1) (flushSlot 64#256) 6 1],
      s.flash.status = .ready ∧ s.disk.status = .ready ∧ s.held .mover = false ∧ freeRecords s ≠ 0 ∧
      (s.ctx .ctx0).any (fun x => x.slot == some 5 && x.chunk == some 2 && x.abort.isNone) = true ∧
      (s.flash.list ++ s.disk.list).map (fun q => (q.id, q.state)) = [(9, .sent)]) ∧
    runs (rangeSet 3 198 &&& ~~~fillSlot.valid) = [⟨3, 198⟩] ∧
    (flushing .flush .diskWrite 0).snapshot[1]? = some ⟨6, 1⟩ ∧ (flushing .evict .diskWrite 1).snapshot.length = 1 + 1 := by
  decide +kernel

theorem test_meets_ContextEvents_pieces_service : ∀ y j' c',
    (moverPiece .disk fillRead fillSlot 3 198).arbiter.service.get y ≠ .job .suspended j' c' := by
  intro y j c; cases y <;> exact nofun

/-- A fill whose flash write is outstanding, in a pinned slot without valid offsets; with one Pin-Fill waiting, the Pin
Scanner stalls at chunk 3 under P = 2. -/
def stalledFill : State :=
  { queued .pinFill [⟨.fill, .chunk 99⟩] (moverPiece .flash { fillRead with phase := .flashWrite }
      { fillSlot with valid := 0#256, pinned := true } 3 198) with
    ranges := (scanning 3).ranges
    params := { part.params with pinLimit := 2 }
    scanner := .scanning 0 3 (.stalled true) }

/-- The fill's failure frees the slot, and the stall is over; its chunk is not examined in that event, nor in one that
faults the Flash Port and idles the scanner (R59 to R61, R166). -/
theorem test_jobEnd_endsStall : stalledFill.map.pinnedCount = 1 ∧
    (∀ t ∈ [after (completed .flash 3#8 stalledFill),
        after (exec (.pieceTimeout .flash 9#8) { stalledFill with flash := { stalledFill.flash with timeouts := 2 } })],
      t.map.pinnedCount = 0 ∧ t.arbiter.queues.pinFill = [⟨.fill, .chunk 99⟩]) ∧
    (after (completed .flash 3#8 stalledFill)).scanner = .scanning 0 3 .none ∧
    (after (exec (.pieceTimeout .flash 9#8)
      { stalledFill with flash := { stalledFill.flash with timeouts := 2 } })).scanner = .idle := by decide +kernel

/-- The Mover's piece completions: a fill's disk read is followed by its flash write, which ends it; a flush's disk
write by the next run's flash read; an evict's last disk write frees the slot, or finds it BUSY (R134, R135, R138,
R140). -/
theorem test_pieceCompletion_mover :
    (after (completed .disk 0#8 (moverPiece .disk fillRead fillSlot 3 198))).flash.list.map (fun x => (x.op, x.target, x.count)) =
      [(.write, .flash 5 3, 198)] ∧
    ((after (completed .flash 0#8 (moverPiece .flash { fillRead with phase := .flashWrite, cursor := 201 } fillSlot 3 198))).slot 5) =
      { resident 2 (BitVec.allOnes 256) 0#256 with state := .resident } ∧
    (after (completed .flash 0#8 (moverPiece .flash (flushing .flush .flashRead 1) (flushSlot 0#256) 6 1))).disk.list.map
      (fun x => (x.op, x.target, x.count)) = [(.write, .disk 518, 1)] ∧
    (after (completed .disk 0#8 (moverPiece .disk (flushing .flush .diskWrite 0) (flushSlot 0#256) 1 2))).flash.list.map
      (fun x => (x.op, x.target, x.count)) = [(.read, .flash 5 6, 1)] ∧
    ((after (completed .disk 0#8 (moverPiece .disk (flushing .evict .diskWrite 1) (flushSlot 0#256) 6 1))).slot 5) = .free ∧
    (after (completed .disk 0#8 (moverPiece .disk (flushing .evict .diskWrite 1) (flushSlot 64#256) 6 1))).mover.failure =
      some ⟨.directed, .evict, some 2, some 5, .busy, none, .evictCheck⟩ := by decide +kernel

/-- A flush's flash read that fails on dirty data ends the job and sets MEDIA_LOSS with JOB_FAILED (R139, R141). -/
theorem test_pieceCompletion_mover_fails :
    let t := after (completed .flash 1#8 (moverPiece .flash (flushing .flush .flashRead 1) (flushSlot 0#256) 6 1))
    t.mover.failure = some ⟨.directed, .flush, some 2, some 5, .mediaError, some 518, .flashRead⟩ ∧ t.ctx .ctx0 = none ∧
      t.sup.flags = 272#12 ∧ (t.slot 5).state = .resident := by decide +kernel

/-- A host disk piece at LBA 512, as fallback piece or not, of a command that it alone keeps. -/
def diskRead9 (o : Owner) (fallback : List Nat) (s : State) : State :=
  onDisk [diskPiece 9 o .sent] { s with commands := [{ command .read 512 256 with
    outstanding := 1, routingDone := true, fallbackPieces := fallback }] }

theorem test_meets_HostPieceCompletion_failing :
    (∀ l ∈ [[], [9]], (diskRead9 (.command 3) l running).disk.list = [] ++ diskPiece 9 (.command 3) .sent :: [] ∧
      (diskRead9 (.command 3) l running).disk.status = .ready ∧
      ((diskRead9 (.command 3) l running).commands.map (fun r => (r.tag, r.routingDone, r.outstanding))) = [(3, true, 1)]) ∧
    (diskPiece 9 (.command 3) .sent).target = .disk 512 ∧
    ({ flashPiece 9 (.command 3) .sent with op := .read } : Piece).target = .flash 5 7 ∧
    lastReply (exec (.pieceCompletion .disk 9#8 1#8 255#8) (diskRead9 (.command 3) [] running)) =
      some (.media .mediaError, some 767, .none) ∧
    lastReply (completed .disk 3#8 (diskRead9 (.command 3) [] running)) = some (.media .diskUnavailable, some 512, .none) ∧
    lastReply (completed .disk 3#8 (diskRead9 (.command 3) [9] running)) = some (.media .mediaError, some 512, .none) ∧
    lastReply (completed .flash 2#8 hostRead) = some (.media .aborted, some 519, .none) := by decide +kernel

/-- An orphan leaves only the map; a caught piece goes back to WAITING once, and completes ABORTED then. -/
theorem test_meets_HostPieceCompletion_orphan :
    ((after (completed .flash 1#8 (onFlash [flashPiece 9 .orphan .sent]
      (bind 5 { resident 2 896#256 896#256 with inflight := 1 } part)))).slot 5) =
      resident 2 0#256 0#256 ∧
    (after (completed .disk 2#8 (diskRead9 .orphan [] part))).disk.list.map (fun x => (x.state, x.retryUsed)) =
      [(.waiting, true)] ∧
    (after (completed .disk 2#8 (onDisk [{ diskPiece 9 .orphan .sent with retryUsed := true }] part))).disk.list = [] ∧
    part.spindle.state ≠ .running ∧ (∀ c y, Owner.orphan = .context c → part.ctx c = some y → y.abort = none) := by
  refine ⟨?_, ?_, ?_, ?_, fun _ _ h => nomatch h⟩ <;> decide +kernel

/-- The third timeout at a port with one listed piece, a host write's or a disk read's. -/
theorem test_meets_PieceTimeout_fault :
    let s := hostWrite { command .write 519 3 with outstanding := 1 }
    let w := { s with flash := { s.flash with timeouts := 2 } }
    let d := diskRead9 (.command 3) [] { running with disk := { running.disk with timeouts := 2 } }
    (∀ u ∈ [w, d], (u.flash.list ++ u.disk.list).map (·.id) = [9] ∧ u.commands.map (·.tag) = [3] ∧
      3 ≤ max u.flash.timeouts u.disk.timeouts + 1) ∧ (w.slot 5).chunk = some 2 ∧
    w.commands.map (·.routingDone) = [false] ∧
    (after (exec (.pieceTimeout .flash 9#8) w)).commands.map (fun r => (r.status, r.errorLba, r.outstanding)) =
      [(.flashUnavailable, some 519, 0)] ∧
    ((after (exec (.pieceTimeout .flash 9#8) w)).slot 5).dirty = 0#256 ∧
    (after (exec (.pieceTimeout .flash 9#8) w)).sup.mode = .flashLost ∧
    (after (exec (.pieceTimeout .flash 9#8) w)).flash.withheld = [9] ∧
    lastReply (exec (.pieceTimeout .disk 9#8) d) = some (.media .diskUnavailable, some 512, .none) ∧
    (after (exec (.pieceTimeout .disk 9#8) { d with commands := [{ command .read 512 256 with outstanding := 1 }] })).commands.map
      (fun r => (r.routingDone, r.status, r.errorLba)) = [(false, .diskUnavailable, some 512)] := by decide +kernel

/-- PORT RESTART holds the head as each probe ends; READY brings a part in FLASH_LOST to ONLINE (R96, R166). -/
theorem test_meets_ProbeEnds_restart :
    let lost : State := { State.reset with sup := { State.reset.sup with mode := .flashLost } }
    (∀ p ∈ [Port.flash, .disk], ∀ s ∈ [State.reset, lost],
      (held (.portRestart p) s).link.headHold = some ⟨5, .portRestart p⟩ ∧ ((held (.portRestart p) s).port p).status = .probing ∧
      ((held (.portRestart p) s).port p).probeTimer.isSome = true ∧ ((held (.portRestart p) s).port p).list = []) ∧
    (after (exec (.probeReady .flash 0#8) (held (.portRestart .flash) lost))).sup.mode = .online ∧
    lastReply (exec (.probeReady .flash 0#8) (held (.portRestart .flash) lost)) = some (.good, none, .fields [some 1]) ∧
    lastReply (exec (.probeReady .disk 1#8) (held (.portRestart .disk) State.reset)) = some (.good, none, .fields [some 1]) ∧
    lastReply (exec (.probeTimeout .flash) (held (.portRestart .flash) lost)) = some (.good, none, .fields [some 2]) ∧
    lastReply (exec (.probeTimeout .disk) (held (.portRestart .disk) State.reset)) = some (.good, none, .fields [some 2]) := by
  decide +kernel

/-- Row 7 with a full Flush-Idle queue, also in the examination that reaches the pause: IDLE turns off, the
no-progress count rises to 2 × S and the hand pauses (R150, R151, R154). -/
theorem test_meets_ReclaimerExamination_full :
    let s : State := queued .flushIdle (List.replicate 32 ⟨.flush, .slot 9⟩)
      (withSpindle .running (examining ⟨false, false, true⟩ (resident 2 1#256 1#256)))
    let at' (n : Nat) : State := { s with reclaimer := { s.reclaimer with noProgress := n } }
    (at' 126).arbiter.queues.flushIdle.length = 32 ∧ (at' 126).reclaimer.condition = .moving ∧
    (after (exec .reclaimerExamination (at' 126))).reclaimer.noProgress = 127 ∧
    (after (exec .reclaimerExamination (at' 126))).reclaimer.duties = ⟨false, false, false⟩ ∧
    (after (exec .reclaimerExamination (at' 126))).sup.flags.getLsbD EventFlag.noEvictable.bit = false ∧
    (after (exec .reclaimerExamination (at' 127))).sup.flags.getLsbD EventFlag.noEvictable.bit = true ∧
    (after (exec .reclaimerExamination (at' 127))).reclaimer.noProgress = 0 := by decide +kernel

/-- IDLE on keeps the idle-flush timer stopped, though its condition begins in the event (R149). -/
theorem test_idleFlush_stopped_while_idle :
    let s : State := withSpindle .running { bound255 with reclaimer :=
      { bound255.reclaimer with duties := ⟨false, false, true⟩, condition := .moving } }
    (settle (withSpindle .stopped s) s).reclaimer.idleFlushTimer = none ∧
    (settle (withSpindle .stopped s) { s with reclaimer := bound255.reclaimer }).reclaimer.idleFlushTimer = some 200 := by
  decide +kernel

/-- Runs join a fallback list in ascending LBA whatever the order of their failures (R80). -/
theorem test_fallback_list_ascending :
    insertRun (4, 2) (insertRun (9, 1) (insertRun (0, 3) [])) = [(0, 3), (4, 2), (9, 1)] := by decide +kernel

/-- Bytes 8 to 11 of a FREE slot's read-back record are all ones (R22, R178). -/
theorem test_slot_record_chunk :
    (slotRecordBytes 5 .free).take 12 = [5#8, 0#8, 0#8, 0#8, 0#8, 0#8, 0#8, 0#8, 255#8, 255#8, 255#8, 255#8] ∧
    ((slotRecordBytes 5 (resident 258 1#256 0#256)).drop 8).take 4 = [2#8, 1#8, 0#8, 0#8] := by decide +kernel

/-! ### One step of each command -/

/-- Status and result of the last completion record sent. -/
def replyOf (a : Answer) : Option (Status × Result) := (after a).link.sent.getLast?.map (fun c => (c.status, c.result))

/-- A descriptor alone in the queue, taken by its command. -/
def takenBy (c : Instr) (d : Descriptor) (s : State) : Answer := exec c (atHead d s)

def goodWith (l : List Nat) : Option (Status × Result) := some (.good, .fields (l.map some))

theorem test_powerOn : (after (exec .powerOn running)).sup.mode = .loading ∧
    (after (exec .powerOn running)).disk.probeTimer = some 10000 := by decide +kernel
theorem test_linkReset : (after (exec .linkReset (onFlash [flashPiece 9 (.command 3) .sent]
    (routing (command .write 0 1) (held .loadRange part))))).link.headHold = none ∧
    ((after (exec .linkReset (onFlash [flashPiece 9 (.command 3) .sent] (routing (command .write 0 1) part)))).flash.list.map
      (·.owner)) = [.orphan] := by decide +kernel
theorem test_descriptorArrival : (after (exec (.descriptorArrival (cmd 32)) part)).link.queue = [cmd 32] := by decide +kernel
theorem test_read_streaming :
    (after (takenBy .read (media 1 0 2048) part)).commands.map (fun r => (r.streaming, r.cursor)) = [(true, 0)] := by
  decide +kernel
theorem test_write : (after (takenBy .write (media 2 9 5) part)).streams = [⟨14, 5⟩] := by decide +kernel
theorem test_trim : (after (takenBy .trim (media 3 9 5) part)).routing = [3] := by decide +kernel
theorem test_sync : (after (takenBy .sync (cmd 4) part)).commands.map (·.kind) = [.sync] := by decide +kernel
theorem test_unknownOperation : replyOf (takenBy .unknownOperation (cmd 0) part) = some (.unknownOperation, .none) := by
  decide +kernel
theorem test_identify : replyOf (takenBy .identify (cmd 32) part) = goodWith [11, 4, 1, 65536, 32, 1024, 32] := by
  decide +kernel
theorem test_setGeometry : replyOf (takenBy .setGeometry (cmd 33 64 65536) State.reset) = some (.good, .geometry 64 65536) ∧
    (after (takenBy .setGeometry (cmd 33 64 65536) State.reset)).params.markC = 1 := by decide +kernel
theorem test_loadSlots :
    ((after (takenBy .loadSlots (loaded 34 1 (slotBytes 63 1 1 255 3 1)) (inMode .loading))).slot 63).valid = 3#256 := by
  decide +kernel
theorem test_setParametersWrite : replyOf (takenBy .setParametersWrite (cmd 35 (3 + 65536) 0) part) = goodWith [1] ∧
    (after (takenBy .setParametersWrite (cmd 35 (3 + 65536) 0) part)).params.td = 0 := by decide +kernel
theorem test_setParametersRead : replyOf (takenBy .setParametersRead (cmd 35 3) part) = goodWith [256] := by decide +kernel
theorem test_loadRange : (after (takenBy .loadRange (rangeLoad 0 1 0 255) part)).walk = some 0 ∧
    (after (takenBy .loadRange (rangeLoad 0 1 0 255) part)).link.headHold = some ⟨3, .loadRange⟩ := by decide +kernel
theorem test_clearHeatEmpty : replyOf (takenBy .clearHeatEmpty (cmd 37) part) = goodWith [0] := by decide +kernel
theorem test_clearHeatLevel :
    (after (takenBy .clearHeatLevel (cmd 37 1 70000) (heated ⟨7, 9, .promoted, 0, 1#8⟩ part))).heatEntry 0 =
      some ⟨7, 65535, .tracked, 0, 1#8⟩ := by decide +kernel
theorem test_postJob : ((after (takenBy .postJob (jobPost 2 255) bound255)).slot 63).queued = true ∧
    replyOf (takenBy .postJob (jobPost 2 255) bound255) = goodWith [1] := by decide +kernel
theorem test_ackJob : (after (takenBy .ackJob (cmd 39) (serving .flushUrgent .awaitAck part))).arbiter.service.flushUrgent =
    .none := by decide +kernel
theorem test_setLowest : (after (takenBy .setLowest (cmd 40 2) part)).arbiter.lowest = .directed := by decide +kernel
theorem test_setMask : replyOf (takenBy .setMask (cmd 41 255) part) = goodWith [31] := by decide +kernel
theorem test_pollArbiter : (replyOf (takenBy .pollArbiter (cmd 42) toGrant)).map (·.2) = some (arbiterReport toGrant) := by
  decide +kernel
theorem test_readJobStatus : (replyOf (takenBy .readJobStatus (cmd 43) waitingPool)).map (·.2) =
    some (jobReport waitingPool) := by decide +kernel
theorem test_spinUp : (after (takenBy .spinUp (cmd 44) part)).disk.sent.getLast? = some .start := by decide +kernel
theorem test_spinDown : (after (takenBy .spinDown (cmd 45) running)).disk.sent.getLast? = some .stop := by decide +kernel
theorem test_portRestart : replyOf (takenBy .portRestart (cmd 46 0) part) = some (.notPermitted, .none) := by decide +kernel
theorem test_readStatus : ((replyOf (takenBy .readStatus (cmd 47) running)).map (fun r => match r.2 with
    | .fields l => l.take 4
    | _ => [])) = some [some 1, some 1, some 1, some 2] := by decide +kernel
theorem test_readEvents : replyOf (takenBy .readEvents (cmd 48) (setFlag .haltNotice part)) = goodWith [2048] ∧
    (after (takenBy .readEvents (cmd 48) (setFlag .haltNotice part))).sup.flags = 0#12 := by decide +kernel
theorem test_setEventMask :
    (after (takenBy .setEventMask (cmd 49 65535) (setFlag .haltNotice part))).sup.notice = true := by decide +kernel
theorem test_holdBlocks : replyOf (takenBy .holdBlocks (cmd 50 32) part) = goodWith [0] := by decide +kernel
theorem test_setCursor : replyOf (takenBy .setCursor (cmd 51 0 64) part) = some (.badIndex, .none) := by decide +kernel
theorem test_readNext : (after (takenBy .readNext (cmd 52) part)).sup.cursor = ⟨.slots, 1, true⟩ := by decide +kernel
theorem test_enable : (after (takenBy .enable (cmd 53) (inMode .loading))).sup.mode = .online := by decide +kernel
theorem test_routePortion_absorb :
    let t := after (exec (.routePortion .accessFirst) (routing (command .write 519 3) part))
    t.map.slotOf 2 = some 0 ∧ (t.slot 0).dirty = rangeSet 7 3 ∧ (t.slot 0).inflight = 1 ∧
      t.flash.list.map (fun x => (x.target, x.count, x.state, x.timer)) = [(.flash 0 7, 3, .sent, some 200)] := by
  decide +kernel
theorem test_routePortion_starts_spindle :
    let t := after (exec (.routePortion .routeFirst) (routing (command .read 255 2) part))
    t.spindle.state = .starting ∧ t.disk.list.map (fun x => (x.target, x.count, x.state)) = [(.disk 255, 1, .waiting)] ∧
      t.commands.map (·.cursor) = [256] ∧ t.accesses.map (·.sectors) = [2] := by decide +kernel
theorem test_routeSync : (after (exec .routeSync (routing (command .sync 0 0) running))).disk.list.map (·.op) = [.sync] := by
  decide +kernel
theorem test_fallbackPieceMake :
    (after (exec .fallbackPieceMake (routing { command .read 0 9 with fallbackList := [(4, 2)] } part))).disk.list.map
      (fun x => (x.target, x.count, x.buffer)) = [(.disk 4, 2, .host 77#64 4)] := by decide +kernel
theorem test_access : (after (exec .access (accessed part))).heatEntry 0 = some ⟨7, 4, .tracked, 0, 1#8⟩ := by decide +kernel
theorem test_sweepVisit :
    (after (exec .sweepVisit (heated ⟨7, 320, .tracked, 0, 1#8⟩ part))).heatEntry 0 = some ⟨7, 280, .candidate, 0, 1#8⟩ ∧
    (after (exec .sweepVisit (heated ⟨7, 1, .tracked, 0, 1#8⟩ part))).heatEntry 0 = none := by decide +kernel
theorem test_retagVisit :
    ((after (exec .retagVisit { ranged 0 ⟨0, 65535, .pin⟩ bound255 with walk := some 63 })).slot 63).pinned = true ∧
    (after (exec .retagVisit { ranged 0 ⟨0, 65535, .pin⟩ bound255 with walk := some 63 })).scanner = .scanning 0 0 .none := by
  decide +kernel
theorem test_pinScannerExamination :
    (after (exec .pinScannerExamination (scanning 3))).arbiter.queues.pinFill = [⟨.fill, .chunk 3⟩] ∧
    (after (exec .pinScannerExamination (scanning 3))).scanner = .idle := by decide +kernel
theorem test_grant : (after (exec .grant suspendable)).arbiter.service.directed = .job .pending ⟨.fill, .chunk 2⟩ .ctx1 ∧
    (after (exec .grant suspendable)).arbiter.service.hotFill = .job .suspending ⟨.fill, .chunk 2⟩ .ctx0 ∧
    (after (exec .grant suspendable)).arbiter.queues.directed = [] := by decide +kernel
/-- A fill in pool wait whose chunk host writes have made fully valid ends DONE at the retry (R134). -/
theorem test_moverIssueRetry :
    let t := after (exec (.moverIssueRetry .ctx0)
      (bind 5 { resident 2 (BitVec.allOnes 256) 0#256 with state := .filling, queued := true } waitingPool))
    t.ctx .ctx0 = none ∧ t.arbiter.service.hotFill = .none ∧ (t.slot 5).state = .resident ∧ (t.slot 5).queued = false ∧
      t.mover.failure = none := by decide +kernel
theorem test_watchdogExpiry : (after (exec (.watchdogExpiry .ctx0) waitingPool)).mover.failure =
    some ⟨.hotFill, .fill, some 2, some 5, .timeout, none, .diskRead⟩ := by decide +kernel
theorem test_pieceCompletion :
    let t := after (exec (.pieceCompletion .flash 9#8 1#8 2#8) (hostWrite { command .write 519 3 with
      outstanding := 1, routingDone := true }))
    t.link.sent.map (fun c => (c.status, c.errorLba)) = [(.media .mediaError, some 521)] ∧ (t.slot 5).valid = 0#256 ∧
      (t.slot 5).inflight = 0 := by decide +kernel
theorem test_pieceCompletion_fallback :
    let t := after (exec (.pieceCompletion .flash 9#8 1#8 0#8) hostRead)
    t.disk.list.map (fun x => (x.target, x.count, x.buffer)) = [(.disk 520, 2, .host 77#64 1)] ∧
      t.commands.map (fun r => (r.status, r.errorLba, r.outstanding)) = [(.mediaError, some 519, 1)] ∧
      (t.slot 5).valid = 128#256 := by decide +kernel
theorem test_abortFoundNothing : exec (.abortFoundNothing .disk 9#8) part = .next part := rfl
theorem test_pieceTimeout :
    (after (exec (.pieceTimeout .flash 9#8) (onFlash [flashPiece 9 .orphan .sent] part))).flash.sent.getLast? =
      some (.abort 9) := by decide +kernel
theorem test_probeReady : (after (exec (.probeReady .disk 1#8) State.reset)).spindle.state = .running := by decide +kernel
theorem test_probeTimeout : (after (exec (.probeTimeout .flash) State.reset)).flash.status = .faulted ∧
    (after (exec (.probeTimeout .flash) State.reset)).sup.flags = 1024#12 := by decide +kernel
theorem test_halt : (after (exec .halt running)).spindle.state = .stopped := by decide +kernel
theorem test_startReply : (after (exec (.startReply 0#8) starting)).disk.list.map (fun x => (x.state, x.retryUsed)) =
    [(.sent, true), (.sent, false)] := by decide +kernel
theorem test_stopReply : (after (exec .stopReply (withSpindle .stopping part))).spindle.state = .stopped := by decide +kernel
theorem test_startTimerExpiry : (after (exec .startTimerExpiry { starting with disk := part.disk })).spindle.retryTimer =
    some 5000 := by decide +kernel
theorem test_retryDelayExpiry :
    (after (exec .retryDelayExpiry { part with spindle := { part.spindle with retryTimer := some 5000 } })).spindle.retryTimer =
      none := by decide +kernel
theorem test_idleTimerExpiry :
    (after (exec .idleTimerExpiry { running with spindle := { running.spindle with idleTimer := some 8000 } })).spindle.state =
      .stopping := by decide +kernel
theorem test_reclaimerExamination :
    ((after (exec .reclaimerExamination (examining ⟨true, false, false⟩ (resident 2 1#256 0#256)))).slot 0).state = .free ∧
    (after (exec .reclaimerExamination (examining ⟨true, false, false⟩ (resident 2 1#256 1#256)))).arbiter.queues.flushUrgent =
      [⟨.flush, .slot 0⟩] := by decide +kernel
theorem test_idleFlushExpiry :
    (after (exec .idleFlushExpiry { withSpindle .running bound255 with reclaimer :=
      { bound255.reclaimer with idleFlushTimer := some 200 } })).reclaimer.duties.idle = true := by decide +kernel
theorem test_unknownPortMessage : exec (.unknownPortMessage .flash 5#192) part = .next part := rfl

end Sys2Proof.Tests
end

section
/-! O18. A SET PARAMETERS that writes: the state it leads to holds the value that `Params.store` clamps, and its completion
record returns that stored value (R46, R172). Each heat parameter's clamp is then one case of `Params.store`. -/

namespace Sys2Proof.Machine

open Sys2Proof.Safety

/-- "Any encoding other than SINGLE" is ROLLOVER (R46). -/
theorem candidateMode_ofCode (v : Nat) : CandidateMode.ofCode v = if v = 0 then .single else .rollover := by
  cases v <;> rfl

theorem exec_setParametersWrite (s : State) : exec .setParametersWrite s = execSetParametersWrite s := rfl

variable {s : State} {d : Descriptor} {rest : List Descriptor}

/-- A writing SET PARAMETERS at the head of the queue is handed to the parameter store. -/
theorem exec_setParametersWrite_head (h : HeadIs .setParameters d rest s) (hw : headerField d 6 1 = 1) :
    exec .setParametersWrite s =
      .next (settle s (ownParameterWrite d (tagOf d) (taken .setParameters d rest s))) := by
  rw [exec_setParametersWrite, execSetParametersWrite, manage_taken h (by simp [isWriteAccess, hw]), event_some]

/-- The parameter store answers a write of a parameter of R179 with the stored value (R172). -/
theorem ownParameterWrite_named {id : ParamId} (h : HeadIs .setParameters d rest s)
    (hid : ParamId.ofNumber (headerField d 4 2) = some id) :
    ownParameterWrite d (tagOf d) (taken .setParameters d rest s) =
      replied d .good (.fields [some ((s.params.store s.map.slotCount id (headerField d 8 4)).read id)])
        (storeParameter id (headerField d 8 4) (dequeued rest s)) := by
  have hrecord : (storeParameter id (headerField d 8 4) (taken .setParameters d rest s)).commands =
      s.commands ++ [managementRecord (tagOf d) .setParameters] := by simp [storeParameter, taken]
  simp only [ownParameterWrite, namedParameter, hid, answerGood]
  rw [answer_of h hrecord, storeParameter_commands, storeParameter_params]
  rfl

/-- After the event the parameters are those that `Params.store` gives: neither the effects of the write nor the end of
the event change a parameter. -/
theorem settle_ownParameterWrite_params {id : ParamId} (h : HeadIs .setParameters d rest s)
    (hid : ParamId.ofNumber (headerField d 4 2) = some id) :
    (settle s (ownParameterWrite d (tagOf d) (taken .setParameters d rest s))).params =
      s.params.store s.map.slotCount id (headerField d 8 4) := by
  rw [ownParameterWrite_named h hid]
  simp [replied, storeParameter_params, dequeued]

/-- The event sends one completion record: with no head hold in force its end completes nothing more. -/
theorem settle_ownParameterWrite_sent {id : ParamId} (h : HeadIs .setParameters d rest s)
    (hid : ParamId.ofNumber (headerField d 4 2) = some id) :
    (settle s (ownParameterWrite d (tagOf d) (taken .setParameters d rest s))).link.sent = s.link.sent ++
      [⟨tagOf d, .good, none,
        .fields [some ((s.params.store s.map.slotCount id (headerField d 8 4)).read id)]⟩] := by
  have ⟨hfree, _⟩ := h
  rw [ownParameterWrite_named h hid, settle_link_free (by simp [replied, dequeued, hfree])]
  simp [replied, dequeued]

/-- What a writing SET PARAMETERS does (R172): whatever identifier it names, the parameters are those that
`Params.store` gives for it, and the completion record returns the stored value. -/
theorem setParametersWrite_stores (h : HeadIs .setParameters d rest s) (hw : headerField d 6 1 = 1) :
    ∃ t, exec .setParametersWrite s = .next t ∧
      ∀ id, ParamId.ofNumber (headerField d 4 2) = some id →
        t.params = s.params.store s.map.slotCount id (headerField d 8 4) ∧
        t.link.sent = s.link.sent ++ [⟨tagOf d, .good, none, .fields [some (t.params.read id)]⟩] := by
  refine ⟨_, exec_setParametersWrite_head h hw, fun id hid => ?_⟩
  have hparams := settle_ownParameterWrite_params h hid
  refine ⟨hparams, ?_⟩
  rw [hparams]
  exact settle_ownParameterWrite_sent h hid

end Sys2Proof.Machine
end

section

namespace Sys2Proof.Machine

open Sys2Proof.Safety

/-- Settles O18. The written state holds what `Params.store` gives for the named identifier, so each identifier of R46 is
that function's own case. -/
theorem heatParametersClamped : Obligations.HeatParametersClamped := by
  unfold Obligations.HeatParametersClamped
  intro s d rest h hw p n v
  obtain ⟨t, hexec, hwrite⟩ := setParametersWrite_stores h hw
  have stored (id : ParamId) (hid : ParamId.ofNumber n = some id) : t.params = p.store s.map.slotCount id v :=
    (hwrite id hid).1
  refine ⟨t, hexec, ?readWeight, ?writeWeight, ?tp, ?td, ?decayShift, ?confirmDepth,
    ?admitBar, ?streamThreshold, ?sweepCode, ?candidateMode, ?completion⟩
  case readWeight => exact fun hn => stored .readWeight (hn ▸ rfl)
  case writeWeight => exact fun hn => stored .writeWeight (hn ▸ rfl)
  case tp => exact fun hn => stored .tp (hn ▸ rfl)
  case td => exact fun hn => stored .td (hn ▸ rfl)
  case decayShift => exact fun hn => stored .decayShift (hn ▸ rfl)
  case confirmDepth => exact fun hn => stored .confirmDepth (hn ▸ rfl)
  case admitBar => exact fun hn => stored .admitBar (hn ▸ rfl)
  case streamThreshold => exact fun hn => stored .streamThreshold (hn ▸ rfl)
  case sweepCode => exact fun hn => stored .sweepCode (hn ▸ rfl)
  case candidateMode =>
    intro hn
    rw [stored .candidateMode (hn ▸ rfl), Params.store, candidateMode_ofCode]
  case completion => exact fun id _ _ hid => (hwrite id hid).2

end Sys2Proof.Machine
end

section
/-! O56. The two parts of a merge are a maximum and a minimum: the status merges as the maximum of the severity codes, the
error LBA as the minimum of the failing LBAs present. Two merges therefore give the same command in either order (R78). -/

namespace Sys2Proof.Machine

/-! ### The more severe status -/

/-- The codes tell the statuses apart, so that a claim about statuses may be proved of their codes. -/
theorem MediaStatus.code_injective : Function.Injective MediaStatus.code := by
  intro a b h
  cases a <;> cases b <;> simp [code] at h ⊢

/-- A merged status is the maximum of the two by severity. -/
@[simp] theorem MediaStatus.code_worse (a b : MediaStatus) : (a.worse b).code = max a.code b.code := by
  rw [worse, apply_ite MediaStatus.code, Nat.max_def]

theorem MediaStatus.worse_right_comm (a b c : MediaStatus) : (a.worse b).worse c = (a.worse c).worse b := by
  apply MediaStatus.code_injective
  simp only [code_worse]
  exact Nat.max_right_comm a.code b.code c.code

/-- `worse` compares by `≤`; a strict comparison could differ only at equal codes, which are equal statuses. -/
theorem MediaStatus.worse_eq_ite_lt (a b : MediaStatus) : a.worse b = if a.code < b.code then b else a := by
  apply MediaStatus.code_injective
  rw [code_worse, apply_ite MediaStatus.code]
  split
  next hlt => exact Nat.max_eq_right (Nat.le_of_lt hlt)
  next hge => exact Nat.max_eq_left (Nat.le_of_not_lt hge)

/-- R78: GOOD < MEDIA_ERROR < FLASH_UNAVAILABLE < DISK_UNAVAILABLE < ABORTED. -/
theorem MediaStatus.code_strictly_rising :
    good.code < mediaError.code ∧ mediaError.code < flashUnavailable.code ∧
      flashUnavailable.code < diskUnavailable.code ∧ diskUnavailable.code < aborted.code := by
  decide

/-! ### The lowest failing LBA -/

theorem lowerLba_eq_merge_min (a b : Option Nat) : lowerLba a b = a.merge min b := by
  cases a <;> cases b <;> rfl

theorem lowerLba_right_comm (a b c : Option Nat) : lowerLba (lowerLba a b) c = lowerLba (lowerLba a c) b := by
  simp only [lowerLba_eq_merge_min]
  rw [Std.Associative.assoc (op := Option.merge min) a b c, Std.Commutative.comm (op := Option.merge min) b c,
    Std.Associative.assoc (op := Option.merge min) a c b]

@[simp] theorem lowerLba_some_some (a b : Nat) : lowerLba (some a) (some b) = some (min a b) := rfl

@[simp] theorem lowerLba_none_right (a : Option Nat) : lowerLba a none = a := by
  cases a <;> rfl

@[simp] theorem lowerLba_none_left (b : Option Nat) : lowerLba none b = b := by
  cases b <;> rfl

/-! ### The merge -/

@[simp] theorem CommandRec.merge_status (r : CommandRec) (st : MediaStatus) (lba : Option Nat) :
    (r.merge st lba).status = r.status.worse st := rfl

@[simp] theorem CommandRec.merge_errorLba (r : CommandRec) (st : MediaStatus) (lba : Option Nat) :
    (r.merge st lba).errorLba = lowerLba r.errorLba lba := rfl

/-- The whole command is the same in either order: a merge writes these two fields alone. -/
theorem CommandRec.merge_right_comm (r : CommandRec) (st st' : MediaStatus) (lba lba' : Option Nat) :
    (r.merge st lba).merge st' lba' = (r.merge st' lba').merge st lba := by
  simp only [merge]
  rw [r.status.worse_right_comm st st', lowerLba_right_comm r.errorLba lba lba']

/-- Settles O56: the status is a maximum by severity and the error LBA a minimum, so neither depends on the order. -/
theorem mergeOrder : Obligations.MergeOrder := by
  unfold Obligations.MergeOrder
  refine ⟨MediaStatus.worse_eq_ite_lt, MediaStatus.code_strictly_rising, fun r st lba => ?fields,
    CommandRec.merge_right_comm⟩
  case fields =>
    refine ⟨r.merge_status st lba, ?onlyEarlier, ?onlyNew, ?both, ?neither⟩ <;> rw [CommandRec.merge_errorLba]
    case onlyEarlier => rintro a hr rfl; rw [hr, lowerLba_none_right]
    case onlyNew => rintro b hr rfl; rw [hr, lowerLba_none_left]
    case both => rintro a b hr rfl; rw [hr, lowerLba_some_some]
    case neither => rintro hr rfl; rw [hr, lowerLba_none_right]

end Sys2Proof.Machine
end

section
/-! O10. IDENTIFY reads nothing of the state, the part mode included: its result is a constant, and the completion frees
the record that the taking of the head made (R159, R173). -/

namespace Sys2Proof.Machine

open Sys2Proof.Safety

/-- The codes and limits that R173 and R179 give, as they stand in the result. -/
theorem identity_eq :
    identity = .fields [some 11, some 4, some 1, some 65536, some 32, some 1024, some 32] := rfl

theorem exec_identify (s : State) :
    exec .identify s = .next ((manage .identify anyDescriptor ownIdentify s).getD s) := rfl

/-- As its owner takes it, IDENTIFY leaves the state as it was before the record was taken, but for the completion. -/
theorem ownIdentify_taken {s : State} {d : Descriptor} {rest : List Descriptor} (h : HeadIs .identify d rest s) :
    ownIdentify d (tagOf d) (taken .identify d rest s) = replied d .good identity (dequeued rest s) :=
  answerGood_taken h identity

/-- Settles O10: the head is handed to its owner in every mode, and the owner only completes it. -/
theorem identifyAnswers : Obligations.IdentifyAnswers := by
  unfold Obligations.IdentifyAnswers
  intro s d rest h
  rw [exec_identify, manage_any h, Option.getD_some, ownIdentify_taken h, identity_eq]

end Sys2Proof.Machine
end

section
/-! What every command keeps: the configuration laws, the laws of the interface, the counts, and the waiting commands. One
relation from the state before to the state after, which chains, and one lemma for each event and each owner of a
management descriptor. -/

namespace Sys2Proof.Machine

open Sys2Proof.Safety

/-- Every law that one state meets the other meets too, and the same commands wait. -/
structure Kept (s t : State) : Prop where
  configuration : ConfigurationLaw s → ConfigurationLaw t
  notice : NoticeLaw s → NoticeLaw t
  link : LinkLaw s → LinkLaw t
  counts : CountsLaw s.map → CountsLaw t.map
  heat : HeatCountsLaw s.heat → HeatCountsLaw t.heat
  queues : QueuesLaw s → QueuesLaw t
  pending : t.pending = s.pending

theorem Kept.rfl' (s : State) : Kept s s := ⟨id, id, id, id, id, id, rfl⟩

theorem Kept.trans {s t u : State} (h : Kept s t) (k : Kept t u) : Kept s u where
  configuration := k.configuration ∘ h.configuration
  notice := k.notice ∘ h.notice
  link := k.link ∘ h.link
  counts := k.counts ∘ h.counts
  heat := k.heat ∘ h.heat
  queues := k.queues ∘ h.queues
  pending := k.pending.trans h.pending

/-- `Kept.trans` with the later operation named first. -/
theorem Kept.after {s t u : State} (k : Kept t u) (h : Kept s t) : Kept s u := h.trans k

theorem QueuesKept.law {s t : State} (h : QueuesKept s.arbiter t.arbiter) (hs : QueuesLaw s) : QueuesLaw t := by
  intro k
  by_cases hk : k = .pinFill
  · exact hk ▸ h.capacity (hs .pinFill)
  · rw [h.queues k hk]
    exact hs k

/-- An operation that keeps parameters and what the frame relations name keeps the laws, if it keeps those of the Heat
Table and of the queues. -/
theorem Kept.of_frames {s t : State} (params : t.params = s.params) (map : MapKept s.map t.map)
    (sup : SupKept s.sup t.sup) (link : LinkKept s.link t.link) (pending : t.pending = s.pending)
    (heat : HeatCountsLaw s.heat → HeatCountsLaw t.heat) (queues : QueuesLaw s → QueuesLaw t) : Kept s t where
  configuration h := by
    simpa only [ConfigurationLaw, GeometryLaw, MarksLaw, PinLimitLaw, params, map.slotCount, map.diskSize] using h
  notice := sup.notice
  link h := by simpa only [LinkLaw, link.queue, link.ready] using h
  counts := map.counts
  heat := heat
  queues := queues
  pending := pending

/-- The same for an operation that leaves the Heat Table alone and keeps the queues as the Mover's operations do. -/
theorem Kept.of_mover {s t : State} (params : t.params = s.params) (map : MapKept s.map t.map)
    (sup : SupKept s.sup t.sup) (link : LinkKept s.link t.link) (pending : t.pending = s.pending)
    (heat : t.heat = s.heat) (queues : QueuesKept s.arbiter t.arbiter) : Kept s t :=
  .of_frames params map sup link pending (fun h => heat ▸ h) queues.law

/-- The same for an operation that leaves the Job Arbiter alone as well. -/
theorem Kept.of_still {s t : State} (params : t.params = s.params) (map : MapKept s.map t.map)
    (sup : SupKept s.sup t.sup) (link : LinkKept s.link t.link) (pending : t.pending = s.pending)
    (heat : t.heat = s.heat) (arbiter : t.arbiter = s.arbiter) : Kept s t :=
  .of_mover params map sup link pending heat (arbiter ▸ .rfl' _)

/-- Supervision may change as long as its notice line follows. -/
theorem Kept.supervision {s : State} {u : Supervision}
    (h : NoticeLaw s → u.notice = noticeLine u.flags u.mask) : Kept s { s with sup := u } :=
  ⟨id, h, id, id, id, id, rfl⟩

/-- The Job Arbiter may change outside its queues. -/
theorem Kept.arbiter {s : State} {a : Arbiter} (h : a.queues = s.arbiter.queues) : Kept s { s with arbiter := a } :=
  ⟨id, id, id, id, id, fun hq k => by simpa [h] using hq k, rfl⟩

theorem settle_kept (b s : State) : Kept s (settle b s) := by
  refine .of_still ?_ ?_ ?_ ?_ ?_ ?_ ?_ <;> simp

theorem answer_kept (t : Nat) (st : Status) (lba : Option Nat) (res : Result) (s : State) :
    Kept s (answer t st lba res s) := by
  refine .of_still ?_ ?_ ?_ ?_ ?_ ?_ ?_ <;> simp

theorem answerGood_kept (t : Nat) (res : Result) (s : State) : Kept s (answerGood t res s) := answer_kept _ _ _ _ _

theorem refuse_kept (t : Nat) (st : Status) (s : State) : Kept s (refuse t st s) := answer_kept _ _ _ _ _

theorem placeHold_kept (t : Nat) (op : HoldOp) (s : State) : Kept s (placeHold t op s) := by
  refine .of_still ?_ ?_ ?_ ?_ ?_ ?_ ?_ <;> simp

/-! ### The queues -/

@[simp] theorem PerClass.get_set_same {α : Type} (p : PerClass α) (k : JobClass) (v : α) : (p.set k v).get k = v := by
  cases k <;> rfl

theorem PerClass.get_set_of_ne {α : Type} (p : PerClass α) {k x : JobClass} (v : α) (h : x ≠ k) :
    (p.set k v).get x = p.get x := by
  cases k <;> cases x <;> first | rfl | exact absurd rfl h

theorem PerClass.get_set {α : Type} (p : PerClass α) (k x : JobClass) (v : α) :
    (p.set k v).get x = if x = k then v else p.get x := by
  split
  next h => rw [h, get_set_same]
  next h => exact p.get_set_of_ne v h

/-- The queue gains the entry, whatever slot the entry claims. -/
theorem enqueue_arbiter (k : JobClass) (j : Job) (s : State) : (enqueue k j s).arbiter = { s.arbiter with
    queues := s.arbiter.queues.set k (s.arbiter.queues.get k ++ [j]) } := by
  unfold enqueue
  dsimp only
  split <;> simp

/-- An entry that joins a queue which is not full leaves it within its capacity. -/
theorem enqueue_queues {k : JobClass} {s : State} (j : Job) (hfull : queueFull s k = false) (h : QueuesLaw s) :
    QueuesLaw (enqueue k j s) := by
  intro x
  rw [enqueue_arbiter, PerClass.get_set]
  split
  next hx =>
    have hlt : (s.arbiter.queues.get k).length < k.capacity := Nat.lt_of_not_le (of_decide_eq_false hfull)
    rw [hx, List.length_append]
    exact hlt
  next => exact h x

theorem post_queues (k : JobClass) (j : Job) {s : State} (h : QueuesLaw s) : QueuesLaw (post k j s) := by
  unfold post
  split
  · exact h
  · split
    · exact h
    · split
      · exact h
      next hfull => exact enqueue_queues j (by simpa using hfull) h

theorem postHotFills_queues (g : Nat) (p : ChunkSet) {s : State} (h : QueuesLaw s) : QueuesLaw (postHotFills g p s) := by
  unfold postHotFills
  refine foldl_invariant QueuesLaw _ (fun u x hu => ?_) _ _ h
  unfold postHotFill
  split
  · exact post_queues _ _ hu
  · exact hu

/-- An operation that leaves the Job Arbiter alone keeps its queues. -/
theorem queuesLaw_of_eq {s t : State} (h : t.arbiter = s.arbiter) (hs : QueuesLaw s) : QueuesLaw t :=
  fun k => h ▸ hs k

/-! ### The Heat Table -/

/-- A count after one entry's change is the count of the list after it. -/
theorem recount_listSet {α : Type} (p : α → Bool) (l : List α) (i : Nat) (old new : α) (h : l[i]? = some old) :
    recount (l.countP p) (p old) (p new) = (l.set i new).countP p := by
  obtain ⟨hi, rfl⟩ := List.getElem?_eq_some_iff.mp h
  have hpos : p l[i] = true → 0 < l.countP p := fun hp => List.countP_pos_iff.mpr ⟨l[i], List.getElem_mem hi, hp⟩
  rw [List.countP_set hi]
  unfold recount
  cases hp : p l[i] <;> cases hn : p new <;> simp_all

theorem heatCounts_put {h : HeatUnit} (law : HeatCountsLaw h) {i : Nat} (hi : i < h.entries.length)
    (e : Option HeatEntry) : HeatCountsLaw (h.put i e) := by
  obtain ⟨hlength, hused, hcandidate⟩ := law
  have hold : h.entries[i]? = some (h.entries[i]?).join := by simp [List.getElem?_eq_getElem hi]
  refine ⟨by simpa [HeatUnit.put] using hlength, ?_, ?_⟩
  · simp only [HeatUnit.put, hused]
    exact recount_listSet _ _ _ _ _ hold
  · simp only [HeatUnit.put, hcandidate]
    exact recount_listSet (fun e : Option HeatEntry => e.any (·.isCandidate)) _ _ _ _ hold

theorem heatEntry_lt {s : State} {i : Nat} {e : HeatEntry} (h : s.heatEntry i = some e) : i < s.heat.entries.length := by
  refine Decidable.byContradiction fun hn => ?_
  simp [State.heatEntry, List.getElem?_eq_none (Nat.le_of_not_lt hn)] at h

theorem setVictim_heatCounts (v : Option Nat) {s : State} (h : HeatCountsLaw s.heat) : HeatCountsLaw (setVictim v s).heat :=
  h

theorem putHeat_heatCounts {s : State} {i : Nat} (hi : i < s.heat.entries.length) (e : Option HeatEntry)
    (h : HeatCountsLaw s.heat) : HeatCountsLaw (putHeat i e s).heat := heatCounts_put h hi e

theorem takeAccess_heatCounts (a : Access) {s : State} (h : HeatCountsLaw s.heat) : HeatCountsLaw (takeAccess a s).heat := by
  unfold takeAccess
  split
  next i _ =>
    split
    next e he =>
      have hput := putHeat_heatCounts (heatEntry_lt he) (some (e.touch s.params a)) h
      dsimp only
      split
      · simpa using hput
      · exact hput
    next => exact h
  next =>
    split
    · exact h
    · split
      next i hi =>
        obtain ⟨hlt, -⟩ := List.findIdx?_eq_some_iff_getElem.mp hi
        exact putHeat_heatCounts hlt _ h
      next =>
        unfold overwriteVictim
        split
        · exact h
        · split
          next e he =>
            split
            · exact setVictim_heatCounts _ (putHeat_heatCounts (heatEntry_lt he) _ h)
            · exact h
          next => exact h

theorem takeAccess_queues (a : Access) {s : State} (h : QueuesLaw s) : QueuesLaw (takeAccess a s) := by
  unfold takeAccess
  split
  · split
    · dsimp only
      split
      · exact postHotFills_queues _ _ h
      · exact h
    · exact h
  · split
    · exact h
    · split
      · exact h
      · exact queuesLaw_of_eq (by simp) h

theorem takeAccess_kept (a : Access) (s : State) : Kept s (takeAccess a s) :=
  .of_frames (by simp) (by simp) (by simp) (by simp) (by simp) (takeAccess_heatCounts a) (takeAccess_queues a)

theorem updateVictim_heatCounts (i : Nat) (e : HeatEntry) {s : State} (h : HeatCountsLaw s.heat) :
    HeatCountsLaw (updateVictim i e s).heat := by
  unfold updateVictim
  (repeat' split) <;> exact h

theorem visitEntry_heatCounts {i : Nat} {e : HeatEntry} {s : State} (hi : i < s.heat.entries.length)
    (h : HeatCountsLaw s.heat) : HeatCountsLaw (visitEntry i e s).heat := by
  have hput (v : Option HeatEntry) : HeatCountsLaw (putHeat i v s).heat := putHeat_heatCounts hi v h
  unfold visitEntry
  dsimp only
  split
  · have hgone : HeatCountsLaw (putHeat i none (demotionHint e.region e.touched s)).heat :=
      putHeat_heatCounts (by simpa using hi) none (by simpa using h)
    split <;> exact hgone
  · apply updateVictim_heatCounts
    (repeat' split) <;> simpa using hput _

theorem visitEntry_queues (i : Nat) (e : HeatEntry) {s : State} (h : QueuesLaw s) : QueuesLaw (visitEntry i e s) := by
  have hposted (t : State) (ht : QueuesLaw t) (b : Prop) [Decidable b] :
      QueuesLaw (if b then postHotFills e.region e.touched t else t) := by
    split
    · exact postHotFills_queues _ _ ht
    · exact ht
  unfold visitEntry
  dsimp only
  split
  · split <;> exact queuesLaw_of_eq (by simp) h
  · have hupdate (x : HeatEntry) {t : State} (ht : QueuesLaw t) : QueuesLaw (updateVictim i x t) :=
      queuesLaw_of_eq (by simp) ht
    have hhint {t : State} (ht : QueuesLaw t) : QueuesLaw (demotionHint e.region e.touched t) :=
      queuesLaw_of_eq (by simp) ht
    apply hupdate
    split
    · refine hhint (hposted _ ?_ _)
      split <;> exact h
    · refine hposted _ ?_ _
      split <;> exact h

theorem sweep_kept (s : State) : Kept s (sweep s) := by
  refine .of_frames (by simp) (by simp) (by simp) (by simp) (by simp) (fun h => ?_) (fun h => ?_)
  · have hvisit : HeatCountsLaw (match s.heatEntry s.heat.sweep with
        | some e => visitEntry s.heat.sweep e s
        | none => s).heat := by
      split
      next e he => exact visitEntry_heatCounts (heatEntry_lt he) h
      next => exact h
    exact hvisit
  · have hvisit : QueuesLaw (match s.heatEntry s.heat.sweep with
        | some e => visitEntry s.heat.sweep e s
        | none => s) := by
      split
      · exact visitEntry_queues _ _ h
      · exact h
    exact hvisit

theorem oldestAccess_kept (s : State) : Kept s (oldestAccess s) := by
  unfold oldestAccess
  split
  · exact .rfl' s
  · have hdrop (l : List Access) : Kept s { s with accesses := l } := ⟨id, id, id, id, id, id, rfl⟩
    dsimp only
    split
    · exact hdrop _
    · exact (hdrop _).trans (takeAccess_kept _ _)

theorem heatCounts_clear {h : HeatUnit} : HeatCountsLaw { h with
    entries := List.replicate Config.heatEntries none, usedCount := 0, candidateCount := 0 } := by
  refine ⟨List.length_replicate, ?_, ?_⟩ <;> rw [List.countP_replicate] <;> rfl

/-- CLEAR HEAT LEVEL and the change to SINGLE keep which entries are in use; after a level none is CANDIDATE. -/
theorem levelHeat_heatCounts (v : Nat) {s : State} (h : HeatCountsLaw s.heat) : HeatCountsLaw (levelHeat v s).heat := by
  obtain ⟨hlength, hused, -⟩ := h
  refine ⟨by simpa [levelHeat] using hlength, ?_, ?_⟩
  · simp [levelHeat, hused, List.countP_map, Function.comp_def]
  · simp only [levelHeat, List.countP_map]
    symm
    rw [List.countP_eq_zero]
    rintro (_ | e) _ <;> simp [HeatEntry.isCandidate]

theorem keepFirstCandidate_length (l : List (Option HeatEntry)) (found : Bool) :
    (keepFirstCandidate l found).length = l.length := by
  induction l generalizing found with
  | nil => rfl
  | cons e rest ih =>
    cases e with
    | none => simp [keepFirstCandidate, ih]
    | some e =>
      unfold keepFirstCandidate
      split <;> simp [ih]

theorem keepFirstCandidate_used (l : List (Option HeatEntry)) (found : Bool) :
    (keepFirstCandidate l found).countP (·.isSome) = l.countP (·.isSome) := by
  induction l generalizing found with
  | nil => rfl
  | cons e rest ih =>
    cases e with
    | none => simp [keepFirstCandidate, ih]
    | some e =>
      unfold keepFirstCandidate
      split
      · cases found <;> simp [ih]
      · simp [ih]

/-- Of the CANDIDATE entries the first stays, if none has been found before (R44). -/
theorem keepFirstCandidate_candidates (l : List (Option HeatEntry)) (found : Bool) :
    (keepFirstCandidate l found).countP (fun e => e.any (·.isCandidate)) =
      if found then 0 else min 1 (l.countP (fun e => e.any (·.isCandidate))) := by
  induction l generalizing found with
  | nil => cases found <;> rfl
  | cons e rest ih =>
    cases e with
    | none => simp [keepFirstCandidate, ih]
    | some e =>
      unfold keepFirstCandidate
      split
      next hc =>
        have hone : e.isCandidate = true := by simp [HeatEntry.isCandidate, hc]
        cases found
        · simp only [Bool.false_eq_true, if_false, List.countP_cons, ih, if_true, Option.any_some, hone]
          omega
        · simp only [if_true, List.countP_cons, ih]
          rfl
      next hc =>
        have hnone : e.isCandidate = false := by simp [HeatEntry.isCandidate, hc]
        simp [ih, hnone]

theorem singleCandidate_heatCounts {s : State} (h : HeatCountsLaw s.heat) : HeatCountsLaw (singleCandidate s).heat := by
  obtain ⟨hlength, hused, hcandidate⟩ := h
  refine ⟨?_, ?_, ?_⟩ <;> simp only [singleCandidate]
  · rw [keepFirstCandidate_length, hlength]
  · rw [keepFirstCandidate_used, hused]
  · rw [keepFirstCandidate_candidates, hcandidate]
    rfl

end Sys2Proof.Machine
end

section
/-! O2, O57 to O60. Every event and every owner of a descriptor keeps the laws, and so does every command and every step;
the state after reset meets them. -/

namespace Sys2Proof.Machine

open Sys2Proof.Safety

/-! ### The parameters -/

/-- Clamping puts the marks into their order, from whatever they were (R146). -/
theorem marksLaw_clampMarks (p : Params) {s : State} (h : GeometryLaw s) :
    MarksLaw { s with params := p.clampMarks s.map.slotCount } ∧
      PinLimitLaw { s with params := p.clampMarks s.map.slotCount } := by
  obtain ⟨hslots, -⟩ := h
  simp only [Params.clampMarks, MarksLaw, PinLimitLaw]
  by_cases hzero : s.map.slotCount = 0
  · simp [hzero]
  · simp only [hzero, if_false, clamp]
    omega

theorem heatParameters_clampMarks {p : Params} (slots : Nat) (h : HeatParametersLaw p) :
    HeatParametersLaw (p.clampMarks slots) := by
  unfold Params.clampMarks
  split <;> exact h

/-- Every clamp of the parameter store keeps the laws of the configuration (R46, R58, R146). -/
theorem configurationLaw_store (id : ParamId) (v : Nat) {s : State} (h : ConfigurationLaw s) :
    ConfigurationLaw { s with params := s.params.store s.map.slotCount id v } := by
  obtain ⟨hgeometry, hmarks, hpin, hheat⟩ := h
  have marks (p : Params) (hp : HeatParametersLaw p) :
      ConfigurationLaw { s with params := p.clampMarks s.map.slotCount } :=
    have ⟨hm, hl⟩ := marksLaw_clampMarks p hgeometry
    ⟨hgeometry, hm, hl, heatParameters_clampMarks _ hp⟩
  cases id
  case markH => exact marks { s.params with markH := v } hheat
  case markL => exact marks { s.params with markL := v } hheat
  case markC => exact marks { s.params with markC := v } hheat
  case markDh => exact marks { s.params with markDh := v } hheat
  case markDr => exact marks { s.params with markDr := v } hheat
  case pinLimit => exact ⟨hgeometry, hmarks, Nat.min_le_right _ _, hheat⟩
  all_goals
    refine ⟨hgeometry, hmarks, hpin, ?_⟩
    simp only [HeatParametersLaw, Params.store, clamp] at hheat ⊢
    omega

theorem parameterEffect_heatCounts (was : Params) (id : ParamId) {s : State} (h : HeatCountsLaw s.heat) :
    HeatCountsLaw (parameterEffect was id s).heat := by
  unfold parameterEffect
  cases id
  case sweepCode => dsimp only; unfold restartTick; split <;> exact h
  case candidateMode =>
    dsimp only
    split
    · exact singleCandidate_heatCounts h
    · exact h
  case watchdogCode => dsimp only; unfold stopWatchdogs; split <;> simpa using h
  all_goals exact h

theorem parameterEffect_kept (was : Params) (id : ParamId) (s : State) : Kept s (parameterEffect was id s) := by
  refine .of_frames ?_ ?_ ?_ ?_ ?_ (parameterEffect_heatCounts was id) (queuesLaw_of_eq ?_) <;> simp

theorem storeParameter_kept (id : ParamId) (v : Nat) (s : State) : Kept s (storeParameter id v s) :=
  have hstored : Kept s { s with params := s.params.store s.map.slotCount id v } :=
    ⟨configurationLaw_store id v, fun h => h, fun h => h, fun h => h, fun h => h, fun h => h, rfl⟩
  hstored.trans (parameterEffect_kept _ _ _)

/-! ### The owners of management descriptors -/

theorem countsLaw_empty (n d : Nat) : CountsLaw ⟨n, d, List.replicate n .free, [], n, 0, 0⟩ := by
  refine ⟨List.length_replicate, ?_, ?_, ?_⟩ <;> rw [List.countP_replicate] <;>
    simp [SlotRec.isFree, SlotRec.isDirty, SlotRec.countsPinned, SlotRec.free]

theorem takeGeometry_kept {slots disk : Nat} {s : State} (h : geometryFits slots disk s = true) :
    Kept s (takeGeometry slots disk s) := by
  simp only [geometryFits, Bool.and_eq_true, decide_eq_true_eq, beq_iff_eq] at h
  obtain ⟨⟨⟨⟨⟨hmin, hmax⟩, hdmin⟩, hdmax⟩, hdmod⟩, -⟩ := h
  refine ⟨?configuration, id, id, fun _ => countsLaw_empty _ _, id, id, rfl⟩
  rintro ⟨-, -, -, hheat⟩
  refine ⟨⟨.inr ⟨hmin, hmax⟩, .inr ⟨hdmin, hdmax, hdmod⟩⟩, ?_, Nat.min_le_right _ _, hheat⟩
  have hne : slots ≠ 0 := by omega
  simp only [MarksLaw, takeGeometry, Params.geometryMarks, hne, if_false]
  omega

theorem ownGeometry_kept (d : Descriptor) (t : Nat) (s : State) : Kept s (ownGeometry d t s) := by
  unfold ownGeometry
  dsimp only
  split
  · exact refuse_kept _ _ _
  · split
    next hfits => exact (takeGeometry_kept hfits).trans (answerGood_kept _ _ _)
    next => exact refuse_kept _ _ _

theorem putSlot_kept (i : Nat) (r : SlotRec) (s : State) : Kept s (putSlot i r s) := by
  refine .of_still ?_ ?_ ?_ ?_ ?_ ?_ ?_ <;> simp

theorem loadRecords_kept {l : List SlotLoad} {k : Nat} {s u : State} (h : loadRecords l k s = .inr u) : Kept s u := by
  induction l generalizing k s with
  | nil =>
    cases h
    exact .rfl' _
  | cons r rest ih =>
    unfold loadRecords at h
    split at h
    · exact absurd h (by simp)
    · exact (putSlot_kept _ _ _).trans (ih h)

theorem ownLoadSlots_kept (d : Descriptor) (t : Nat) (s : State) : Kept s (ownLoadSlots d t s) := by
  unfold ownLoadSlots
  dsimp only
  split
  · exact refuse_kept _ _ _
  · split
    · exact answer_kept _ _ _ _ _
    · split
      · exact answer_kept _ _ _ _ _
      next u hu => exact (loadRecords_kept hu).trans (answerGood_kept _ _ _)

theorem ownParameterWrite_kept (d : Descriptor) (t : Nat) (s : State) : Kept s (ownParameterWrite d t s) := by
  unfold ownParameterWrite
  split
  · exact (storeParameter_kept _ _ _).trans (answerGood_kept _ _ _)
  · exact refuse_kept _ _ _

theorem ownParameterRead_kept (d : Descriptor) (t : Nat) (s : State) : Kept s (ownParameterRead d t s) := by
  unfold ownParameterRead
  split
  · exact answerGood_kept _ _ _
  · exact refuse_kept _ _ _

theorem storeRange_kept (i : Nat) (e : Option RangeEntry) (t : Nat) (s : State) : Kept s (storeRange i e t s) := by
  refine .of_still ?_ ?_ ?_ ?_ ?_ ?_ ?_ <;> simp

theorem ownLoadRange_kept (d : Descriptor) (t : Nat) (s : State) : Kept s (ownLoadRange d t s) := by
  unfold ownLoadRange
  dsimp only
  (repeat' split) <;> first | exact refuse_kept _ _ _ | exact storeRange_kept _ _ _ _

theorem clearHeat_kept (s : State) : Kept s (clearHeat s) :=
  .of_frames (by simp) (by simp) (by simp) (by simp) (by simp) (fun _ => heatCounts_clear (h := { s.heat with victim := none }))
    (queuesLaw_of_eq (by simp))

theorem levelHeat_kept (v : Nat) (s : State) : Kept s (levelHeat v s) :=
  .of_frames (by simp) (by simp) (by simp) (by simp) (by simp) (levelHeat_heatCounts v) (queuesLaw_of_eq (by simp))

theorem ownClearEmpty_kept (d : Descriptor) (t : Nat) (s : State) : Kept s (ownClearEmpty d t s) := by
  unfold ownClearEmpty
  split
  · exact (clearHeat_kept s).trans (answerGood_kept _ _ _)
  · exact refuse_kept _ _ _

theorem ownClearLevel_kept (d : Descriptor) (t : Nat) (s : State) : Kept s (ownClearLevel d t s) := by
  unfold ownClearLevel
  split
  · exact (levelHeat_kept _ s).trans (answerGood_kept _ _ _)
  · exact refuse_kept _ _ _

theorem enqueue_kept {k : JobClass} (j : Job) {s : State} (h : queueFull s k = false) : Kept s (enqueue k j s) :=
  .of_frames (by simp) (by simp) (by simp) (by simp) (by simp) (fun hh => by simpa using hh) (enqueue_queues j h)

theorem post_kept (k : JobClass) (j : Job) (s : State) : Kept s (post k j s) :=
  .of_frames (by simp) (by simp) (by simp) (by simp) (by simp) (fun hh => by simpa using hh) (post_queues k j)

/-- A POST JOB that no check refuses finds room in the Directed queue (R116). -/
theorem directed_room {a : JobAction} {c : Nat} {s : State} (h : postRefusal a c s = none) :
    queueFull s .directed = false := by
  unfold postRefusal at h
  split at h
  · cases h
  split at h
  · cases h
  split at h
  · cases h
  split at h
  · cases h
  split at h
  · cases h
  next hfull => simpa using hfull

theorem ownPostJob_kept (d : Descriptor) (t : Nat) (s : State) : Kept s (ownPostJob d t s) := by
  unfold ownPostJob
  split
  · exact refuse_kept _ _ _
  · split
    · exact refuse_kept _ _ _
    · split
      · exact refuse_kept _ _ _
      next hnone => exact (enqueue_kept _ (directed_room hnone)).trans (answerGood_kept _ _ _)

theorem endServiceOf_kept (k : JobClass) (s : State) : Kept s (endServiceOf k s) := by
  refine .of_mover ?_ ?_ ?_ ?_ ?_ ?_ ?_ <;> simp

theorem ownAckJob_kept (d : Descriptor) (t : Nat) (s : State) : Kept s (ownAckJob d t s) := by
  unfold ownAckJob
  split
  · exact refuse_kept _ _ _
  · split
    · exact (endServiceOf_kept _ _).trans (answerGood_kept _ _ _)
    · exact refuse_kept _ _ _

theorem ownSetLowest_kept (d : Descriptor) (t : Nat) (s : State) : Kept s (ownSetLowest d t s) := by
  unfold ownSetLowest
  split
  · exact Kept.after (answerGood_kept _ _ _) (.arbiter rfl)
  · exact refuse_kept _ _ _

theorem ownSetMask_kept (d : Descriptor) (t : Nat) (s : State) : Kept s (ownSetMask d t s) :=
  Kept.after (answerGood_kept _ _ _) (.arbiter rfl)

theorem ownSetEventMask_kept (d : Descriptor) (t : Nat) (s : State) : Kept s (ownSetEventMask d t s) :=
  Kept.after (answerGood_kept _ _ _) (.supervision fun _ => rfl)

theorem ownReadEvents_kept (d : Descriptor) (t : Nat) (s : State) : Kept s (ownReadEvents d t s) :=
  Kept.after (answerGood_kept _ _ _) (.supervision fun _ => rfl)

theorem ownReadStatus_kept (d : Descriptor) (t : Nat) (s : State) : Kept s (ownReadStatus d t s) :=
  Kept.after (answerGood_kept _ _ _) (.supervision id)

theorem ownSetCursor_kept (d : Descriptor) (t : Nat) (s : State) : Kept s (ownSetCursor d t s) := by
  unfold ownSetCursor
  split
  · exact refuse_kept _ _ _
  · dsimp only
    split
    · exact refuse_kept _ _ _
    · exact Kept.after (answerGood_kept _ _ _) (.supervision id)

theorem ownReadNext_kept (d : Descriptor) (t : Nat) (s : State) : Kept s (ownReadNext d t s) := by
  unfold ownReadNext
  dsimp only
  split
  · exact refuse_kept _ _ _
  · exact Kept.after (answerGood_kept _ _ _) (.supervision id)

theorem ownSpinDown_kept (d : Descriptor) (t : Nat) (s : State) : Kept s (ownSpinDown d t s) := by
  have hpending (b : Bool) : Kept s { s with spindle := { s.spindle with pendingSpinDown := b } } :=
    ⟨id, id, id, id, id, id, rfl⟩
  unfold ownSpinDown
  split
  · exact answerGood_kept _ _ _
  · exact placeHold_kept _ _ _
  · exact (hpending true).trans (placeHold_kept _ _ _)
  · exact (hpending true).trans (placeHold_kept _ _ _)

theorem beginProbe_kept (p : Port) (s : State) : Kept s (beginProbe p s) := by
  refine .of_still ?_ ?_ ?_ ?_ ?_ ?_ ?_ <;> simp

theorem ownPortRestart_kept (d : Descriptor) (t : Nat) (s : State) : Kept s (ownPortRestart d t s) := by
  unfold ownPortRestart
  split
  · exact refuse_kept _ _ _
  · split
    · exact (beginProbe_kept _ _).trans (placeHold_kept _ _ _)
    · exact refuse_kept _ _ _

theorem enterOnline_kept (s : State) : Kept s (enterOnline s) := by
  refine .of_still ?_ ?_ ?_ ?_ ?_ ?_ ?_ <;> simp

theorem enterFlashLost_kept (s : State) : Kept s (enterFlashLost s) := by
  refine .of_still ?_ ?_ ?_ ?_ ?_ ?_ ?_ <;> simp

theorem ownEnable_kept (d : Descriptor) (t : Nat) (s : State) : Kept s (ownEnable d t s) := by
  unfold ownEnable
  split
  · exact refuse_kept _ _ _
  · split
    · exact (enterOnline_kept s).trans (answerGood_kept _ _ _)
    · exact (enterFlashLost_kept s).trans (answerGood_kept _ _ _)
    · exact Kept.after (placeHold_kept _ _ _) (.supervision id)

/-! ### HOLD BLOCKS -/

theorem changeHold_kept (b : Block) (was : BitVec 5) {enter leave : State → State} (s : State)
    (henter : Kept s (enter s)) (hleave : Kept s (leave s)) : Kept s (changeHold b was enter leave s) := by
  unfold changeHold
  split
  · exact .rfl' s
  · split
    · exact henter
    · exact hleave

theorem holdHeat_kept (s : State) : Kept s (holdHeat s) :=
  .of_frames (by simp) (by simp) (by simp) (by simp) (by simp) (fun _ => heatCounts_clear (h := s.heat))
    (queuesLaw_of_eq (by simp))

theorem releaseHeat_kept (s : State) : Kept s (releaseHeat s) := ⟨id, id, id, id, id, id, rfl⟩

theorem idleScanner_kept (s : State) : Kept s (idleScanner s) := ⟨id, id, id, id, id, id, rfl⟩

theorem restartScanner_kept (s : State) : Kept s (restartScanner s) := by
  refine .of_still ?_ ?_ ?_ ?_ ?_ ?_ ?_ <;> simp

theorem holdReclaimer_kept (s : State) : Kept s (holdReclaimer s) := ⟨id, id, id, id, id, id, rfl⟩

theorem holdMover_kept (s : State) : Kept s (holdMover s) := by
  refine .of_mover ?_ ?_ ?_ ?_ ?_ ?_ ?_ <;> simp

theorem releaseMover_kept (s : State) : Kept s (releaseMover s) := ⟨id, id, id, id, id, id, rfl⟩

theorem takeHolds_kept (m : BitVec 5) (s : State) : Kept s (takeHolds m s) := by
  have hstored : Kept s { s with sup := { s.sup with holds := m } } := .supervision id
  have hheat := hstored.trans (changeHold_kept .heat s.sup.holds _ (holdHeat_kept _) (releaseHeat_kept _))
  have hpin := hheat.trans (changeHold_kept .pinScanner s.sup.holds _ (idleScanner_kept _) (restartScanner_kept _))
  have hreclaimer := hpin.trans (changeHold_kept (leave := id) .reclaimer s.sup.holds _ (holdReclaimer_kept _) (.rfl' _))
  exact hreclaimer.trans (changeHold_kept .mover s.sup.holds _ (holdMover_kept _) (releaseMover_kept _))

theorem ownHoldBlocks_kept (d : Descriptor) (t : Nat) (s : State) : Kept s (ownHoldBlocks d t s) :=
  (takeHolds_kept _ s).trans (answerGood_kept _ _ _)

end Sys2Proof.Machine
end

section
/-! O2, O57, O58, O59, O60. The events keep the laws one by one; `exec_kept` is the case split over the commands, and the
statements are its consequences. -/

namespace Sys2Proof.Machine

open Sys2Proof.Safety

/-! ### Events -/

/-- What an event keeps where it is taken, the command keeps. -/
theorem event_kept {s : State} {o : Option State} (h : ∀ t, o = some t → Kept s t) : Kept s (event s o) := by
  cases o with
  | none => exact .rfl' s
  | some t => exact (settle_kept s t).after (h t rfl)

theorem applyPlan_kept (r : CommandRec) (pl : Plan) (s : State) : Kept s (applyPlan r pl s) := by
  refine .of_still ?_ ?_ ?_ ?_ ?_ ?_ ?_ <;> simp

theorem routePortion_kept {o : AccessOrder} {s t : State} (h : routePortion o s = some t) : Kept s t := by
  unfold routePortion at h
  split at h
  · cases h
  · split at h
    · cases h
    next pl _ =>
      split at h
      · cases h
      · split at h <;> cases h
        · exact applyPlan_kept _ _ _
        · exact (applyPlan_kept _ _ _).after (takeAccess_kept _ _)
        · have htransit (u : State) (l : List Access) : Kept u { u with accesses := l } := ⟨id, id, id, id, id, id, rfl⟩
          exact (htransit _ _).after (applyPlan_kept _ pl s)

theorem routeSync_kept {s t : State} (h : routeSync s = some t) : Kept s t := by
  unfold routeSync at h
  split at h
  · cases h
  · split at h
    · cases h
    · cases h
      refine .of_still ?_ ?_ ?_ ?_ ?_ ?_ ?_ <;> simp

theorem makeWaiting_kept (s : State) (e : Nat × (Nat × Nat)) : Kept s (makeWaiting s e) := by
  unfold makeWaiting
  split
  · exact .rfl' s
  · refine .of_still ?_ ?_ ?_ ?_ ?_ ?_ ?_ <;> simp

theorem fallbackPieceMake_kept {s t : State} (h : fallbackPieceMake s = some t) : Kept s t := by
  unfold fallbackPieceMake at h
  split at h
  · cases h
    exact foldl_invariant (Kept s) _ (fun u e hu => hu.trans (makeWaiting_kept u e)) _ _ (.rfl' s)
  · cases h

theorem retagVisit_kept {s t : State} (h : retagVisit s = some t) : Kept s t := by
  have hretag (i : Nat) : Kept s (retag i s) := by
    refine .of_still ?_ ?_ ?_ ?_ ?_ ?_ ?_ <;> simp
  have hend (u : State) : Kept u (endWalk u) := by
    refine .of_still ?_ ?_ ?_ ?_ ?_ ?_ ?_ <;> simp
  obtain ⟨i, -, rfl⟩ := Option.map_eq_some_iff.mp h
  dsimp only
  split
  · exact ⟨(hretag i).1, (hretag i).2, (hretag i).3, (hretag i).4, (hretag i).5, (hretag i).6, (hretag i).7⟩
  · exact (hretag i).trans (hend _)

theorem scanChunk_kept (s : State) : Kept s (scanChunk s) := by
  refine .of_mover ?_ ?_ ?_ ?_ ?_ ?_ ?_ <;> simp

theorem leaveQueue_arbiter (k : JobClass) (rest : List Job) (s : State) :
    (leaveQueue k rest s).arbiter = { s.arbiter with queues := s.arbiter.queues.set k rest } := by
  unfold leaveQueue
  dsimp only
  (repeat' split) <;> simp

theorem grant_queues {k : JobClass} {s : State} (h : QueuesLaw s) : QueuesLaw (grant k s).1 := by
  unfold grant
  split
  · exact h
  next j rest hq =>
    have hleft : QueuesLaw (leaveQueue k rest s) := by
      intro x
      rw [leaveQueue_arbiter, PerClass.get_set]
      split
      next hx =>
        have hle := h k
        rw [hq, List.length_cons] at hle
        rw [hx]
        omega
      next => exact h x
    refine QueuesKept.law (s := leaveQueue k rest s) ?_ hleft
    dsimp only
    (repeat' split) <;> simp (maxDischargeDepth := 4)

theorem grant_kept (k : JobClass) (s : State) : Kept s (grant k s).1 :=
  .of_frames (by simp) (by simp) (by simp) (by simp) (by simp) (fun h => by simpa using h) grant_queues

theorem runMover_kept (n : Nat) (p : State × Option Follow) : Kept p.1 (runMover n p) := by
  refine .of_mover ?_ ?_ ?_ ?_ ?_ ?_ ?_ <;> simp

theorem advance_kept (c : CtxId) (s : State) : Kept s (advance c s).1 := by
  refine .of_mover ?_ ?_ ?_ ?_ ?_ ?_ ?_ <;> simp

theorem watchdogExpiry_kept {c : CtxId} {s t : State} (h : watchdogExpiry c s = some t) : Kept s t := by
  unfold watchdogExpiry at h
  split at h
  · split at h <;> cases h
    refine .of_mover ?_ ?_ ?_ ?_ ?_ ?_ ?_ <;> simp
  · cases h

theorem pieceCompletion_kept {p : Port} {id status offset : Byte} {s t : State}
    (h : pieceCompletion p id status offset s = some t) : Kept s t := by
  unfold pieceCompletion at h
  split at h
  · cases h
  · split at h
    · split at h
      · cases h
      · obtain ⟨st, -, rfl⟩ := Option.map_eq_some_iff.mp h
        refine .of_mover ?_ ?_ ?_ ?_ ?_ ?_ ?_ <;> simp
    · split at h <;> cases h
      refine .of_still ?_ ?_ ?_ ?_ ?_ ?_ ?_ <;> simp

theorem countTimeout_kept (p : Port) (s : State) : Kept s (countTimeout p s) := by
  refine .of_mover ?_ ?_ ?_ ?_ ?_ ?_ ?_ <;> simp

theorem pieceTimeout_kept {p : Port} {id : Nat} {s t : State} (h : pieceTimeout p id s = some t) : Kept s t := by
  unfold pieceTimeout at h
  split at h
  · split at h
    · cases h
    · split at h <;> cases h
      · refine (countTimeout_kept _ _).after (.of_still ?_ ?_ ?_ ?_ ?_ ?_ ?_) <;> simp
      · exact countTimeout_kept _ _
  · cases h

theorem finishHold_kept (op : HoldOp) (res : Nat) (s : State) : Kept s (finishHold op res s) := by
  refine .of_still ?_ ?_ ?_ ?_ ?_ ?_ ?_ <;> simp

theorem finishEnable_kept (m : Mode) (s : State) : Kept s (finishEnable m s) := by
  refine .of_still ?_ ?_ ?_ ?_ ?_ ?_ ?_ <;> simp

theorem flashReady_kept (s : State) : Kept s (flashReady s) := by
  refine .of_still ?_ ?_ ?_ ?_ ?_ ?_ ?_ <;> simp

theorem enterRunning_kept (s : State) : Kept s (enterRunning s) := by
  refine .of_still ?_ ?_ ?_ ?_ ?_ ?_ ?_ <;> simp

theorem setPort_kept (p : Port) (u : PortUnit) (s : State) : Kept s (setPort p u s) := by
  refine .of_still ?_ ?_ ?_ ?_ ?_ ?_ ?_ <;> simp

theorem spindle_kept (s : State) (sp : Spindle) : Kept s { s with spindle := sp } := ⟨id, id, id, id, id, id, rfl⟩

theorem sendWaiting_kept (p : Port) (s : State) : Kept s (sendWaiting p s) := by
  refine .of_still ?_ ?_ ?_ ?_ ?_ ?_ ?_ <;> simp

theorem probeReady_kept {p : Port} {spindle : Byte} {s t : State} (h : probeReady p spindle s = some t) : Kept s t := by
  unfold probeReady at h
  split at h
  · cases h
  · cases h
    refine (finishHold_kept _ _ _).after ?_
    cases p
    · exact (flashReady_kept _).after ((sendWaiting_kept _ _).after (setPort_kept _ _ s))
    · have hready := (spindle_kept _ { s.spindle with state := .stopped, startFailed := false, retryTimer := none }).after
        (setPort_kept .disk { s.port .disk with status := .ready, probeTimer := none } s)
      dsimp only
      split
      · exact (enterRunning_kept _).after hready
      · exact hready

theorem setFlag_kept (f : EventFlag) (s : State) : Kept s (setFlag f s) := by
  refine .of_still ?_ ?_ ?_ ?_ ?_ ?_ ?_ <;> simp

theorem forceWhere_kept (p : Port) (f : Piece → Bool) (s : State) : Kept s (forceWhere p f s) := by
  refine .of_mover ?_ ?_ ?_ ?_ ?_ ?_ ?_ <;> simp

theorem probeTimeout_kept {p : Port} {s t : State} (h : probeTimeout p s = some t) : Kept s t := by
  unfold probeTimeout at h
  split at h
  · cases h
  · cases h
    have hforced (v : PortUnit) (f : Piece → Bool) : Kept s (setFlag .portFault (forceWhere p f (setPort p v s))) :=
      (setFlag_kept _ _).after ((forceWhere_kept _ _ _).after (setPort_kept _ _ _))
    refine (finishHold_kept _ _ _).after ?_
    cases p
    · dsimp only
      split
      · exact (finishEnable_kept _ _).after (hforced _ _)
      · exact hforced _ _
    · exact (spindle_kept _ _).after (hforced _ _)

theorem noteStopped_kept (ph : SpinDownPhase) (s : State) : Kept s (noteStopped ph s) := by
  refine .of_still ?_ ?_ ?_ ?_ ?_ ?_ ?_ <;> simp

theorem failStart_kept (s : State) : Kept s (failStart s) := by
  refine .of_mover ?_ ?_ ?_ ?_ ?_ ?_ ?_ <;> simp

theorem finishStart_kept (s : State) : Kept s (finishStart s) := by
  refine .of_mover ?_ ?_ ?_ ?_ ?_ ?_ ?_ <;> simp

theorem finishStop_kept (s : State) : Kept s (finishStop s) := by
  refine .of_still ?_ ?_ ?_ ?_ ?_ ?_ ?_ <;> simp

theorem haltDisk_kept {s t : State} (h : haltDisk s = some t) : Kept s t := by
  unfold haltDisk at h
  split at h
  · cases h
  · cases h
    have hcaught (l : List Piece) : Kept s (setFlag .haltNotice { s with disk := { s.disk with list := l } }) :=
      (setFlag_kept _ _).after (setPort_kept .disk { s.disk with list := l } s)
    dsimp only
    split
    · exact hcaught _
    · exact (failStart_kept _).after (hcaught _)
    · exact (noteStopped_kept _ _).after ((spindle_kept _ _).after (hcaught _))
    · exact (noteStopped_kept _ _).after ((spindle_kept _ _).after (hcaught _))

theorem startReply_kept {status : Byte} {s t : State} (h : startReply status s = some t) : Kept s t := by
  unfold startReply at h
  split at h
  · cases h
  · split at h <;> cases h
    · exact finishStart_kept s
    · exact failStart_kept s

theorem stopReply_kept {s t : State} (h : stopReply s = some t) : Kept s t := by
  unfold stopReply at h
  split at h <;> cases h
  exact finishStop_kept s

theorem startTimerExpiry_kept {s t : State} (h : startTimerExpiry s = some t) : Kept s t := by
  unfold startTimerExpiry at h
  split at h
  · cases h
  · split at h <;> cases h
    · exact failStart_kept s
    · exact (finishStop_kept _).after (setFlag_kept _ s)

theorem retryDelayExpiry_kept {s t : State} (h : retryDelayExpiry s = some t) : Kept s t := by
  unfold retryDelayExpiry at h
  split at h <;> cases h
  exact spindle_kept s _

theorem sendStop_kept (s : State) : Kept s (sendStop s) := by
  refine .of_still ?_ ?_ ?_ ?_ ?_ ?_ ?_ <;> simp

theorem idleTimerExpiry_kept {s t : State} (h : idleTimerExpiry s = some t) : Kept s t := by
  unfold idleTimerExpiry at h
  split at h <;> cases h
  exact sendStop_kept s

theorem passHand_kept (b : Bool) (s : State) : Kept s (passHand b s) := by
  refine .of_still ?_ ?_ ?_ ?_ ?_ ?_ ?_ <;> simp

theorem countRevolution_kept (s : State) : Kept s (countRevolution s) := by
  refine .of_still ?_ ?_ ?_ ?_ ?_ ?_ ?_ <;> simp

theorem countProgress_kept (b : Bool) (s : State) : Kept s (countProgress b s) := by
  refine .of_still ?_ ?_ ?_ ?_ ?_ ?_ ?_ <;> simp

theorem reclaimer_kept (s : State) (r : Reclaimer) : Kept s { s with reclaimer := r } := ⟨id, id, id, id, id, id, rfl⟩

theorem postFlush_kept (k : JobClass) (i : Nat) (s : State) : Kept s (postFlush k i s) :=
  (passHand_kept _ _).after (post_kept _ _ _)

theorem examination_kept {s t : State} (h : examination s = some t) : Kept s t := by
  unfold examination at h
  split at h
  · cases h
  · cases h
    dsimp only
    split
    · exact passHand_kept _ _
    · exact (passHand_kept _ _).after (putSlot_kept _ _ _)
    · exact (passHand_kept _ _).after (putSlot_kept _ _ _)
    · split
      · exact (countRevolution_kept _).after (reclaimer_kept _ _)
      · exact postFlush_kept _ _ _
    · split
      · exact (reclaimer_kept _ _).after ((countProgress_kept _ _).after (countRevolution_kept _))
      · exact postFlush_kept _ _ _

theorem setDuties_kept (d : Duties) (s : State) : Kept s (setDuties d s) := by
  refine .of_still ?_ ?_ ?_ ?_ ?_ ?_ ?_ <;> simp

theorem idleFlushExpiry_kept {s t : State} (h : idleFlushExpiry s = some t) : Kept s t := by
  unfold idleFlushExpiry at h
  split at h
  · cases h
  · dsimp only at h
    split at h <;> cases h
    · exact (reclaimer_kept _ _).after ((setDuties_kept _ _).after (reclaimer_kept _ _))
    · exact reclaimer_kept _ _

/-! ### The head of the queue -/

/-- The link follows its queue when the front descriptor leaves it (R157). -/
theorem dequeued_kept {d : Descriptor} {rest : List Descriptor} {s : State} (h : s.link.queue = d :: rest) :
    Kept s (dequeued rest s) := by
  refine ⟨id, id, ?link, id, id, id, rfl⟩
  rintro ⟨hlength, -⟩
  rw [h, List.length_cons] at hlength
  exact ⟨by simp only [dequeued]; omega, rfl⟩

theorem sendCompletion_kept (c : Completion) (s : State) : Kept s (sendCompletion c s) := by
  refine .of_still ?_ ?_ ?_ ?_ ?_ ?_ ?_ <;> simp

theorem replied_kept {d : Descriptor} {rest : List Descriptor} {s : State} (st : Status) (res : Result)
    (h : s.link.queue = d :: rest) : Kept s (replied d st res (dequeued rest s)) :=
  (sendCompletion_kept ⟨tagOf d, st, none, res⟩ _).after (dequeued_kept h)

theorem commands_kept (s : State) (c : List CommandRec) : Kept s { s with commands := c } :=
  ⟨id, id, id, id, id, id, rfl⟩

/-- What the owner of a management descriptor keeps, its command keeps. -/
theorem manage_kept (op : Operation) (f : Descriptor → Bool) {owner : Descriptor → Nat → State → State} (s : State)
    (howner : ∀ d t u, Kept u (owner d t u)) {t : State} (h : manage op f owner s = some t) : Kept s t := by
  rcases manage_cases op f owner s with hnone | ⟨d, rest, -, hq, -, -, hconflict | ⟨-, hown⟩⟩
  · rw [hnone] at h
    cases h
  · rw [hconflict] at h
    cases h
    exact replied_kept _ _ hq
  · rw [hown] at h
    cases h
    exact (howner _ _ _).after ((commands_kept _ _).after (dequeued_kept hq))

/-- The same for a command that the part does not judge at its end. -/
theorem manage_getD_kept (op : Operation) (f : Descriptor → Bool) {owner : Descriptor → Nat → State → State} (s : State)
    (howner : ∀ d t u, Kept u (owner d t u)) : Kept s ((manage op f owner s).getD s) := by
  cases h : manage op f owner s with
  | none => exact .rfl' s
  | some t => exact manage_kept op f s howner h

theorem takeHead_kept {f : Descriptor → Bool} {s : State} {e : Descriptor × State} (h : takeHead f s = some e) :
    Kept s e.2 := by
  unfold takeHead at h
  split at h
  · cases h
  · split at h
    · cases h
    next hq =>
      split at h <;> cases h
      exact dequeued_kept hq

theorem acceptMedia_kept (op : Operation) (d : Descriptor) (s : State) : Kept s (acceptMedia op d s) := by
  have hdetect : Kept s (detectStream (lbaOf d) (countOf d) s) := by
    refine .of_still ?_ ?_ ?_ ?_ ?_ ?_ ?_ <;> simp
  have hrecord (u : State) (c : List CommandRec) (r : List Nat) : Kept u { u with commands := c, routing := r } :=
    ⟨id, id, id, id, id, id, rfl⟩
  unfold acceptMedia
  dsimp only
  split
  · exact (hrecord _ _ _).after hdetect
  · exact hrecord s _ _

theorem takeMedia_kept (op : Operation) (d : Descriptor) (s : State) : Kept s (takeMedia op d s) := by
  unfold takeMedia
  (repeat' split) <;> first | exact sendCompletion_kept _ _ | exact acceptMedia_kept _ _ _

theorem mediaCommand_kept (op : Operation) (s : State) : Kept s (mediaCommand op s) := by
  unfold mediaCommand
  split
  next h => exact (takeMedia_kept _ _ _).after (takeHead_kept h)
  next => exact .rfl' s

theorem descriptorArrival_kept (d : Descriptor) (s : State) : Kept s (if s.link.ready then
    { s with link := { s.link with
        queue := s.link.queue ++ [d], ready := decide (s.link.queue.length + 1 < Config.arrivalQueueSize) } }
    else s) := by
  split
  next hready =>
    refine ⟨id, id, ?_, id, id, id, rfl⟩
    rintro ⟨-, hflow⟩
    have hroom : s.link.queue.length < 8 := by simpa [hflow] using hready
    refine ⟨?_, ?_⟩
    · rw [List.length_append]
      exact hroom
    · simp only [List.length_append, List.length_cons, List.length_nil]
      rfl
  next => exact .rfl' s

/-! ### Every command and every step -/

/-- Settles O60: at reset there is no slot, no entry in use, no waiting job and no flag. -/
theorem resetKeepsLaws : Obligations.ResetKeepsLaws := by
  unfold Obligations.ResetKeepsLaws
  refine ⟨?configuration, rfl, ?link, ?counts, ?heat, ?queues⟩
  case configuration =>
    refine ⟨⟨.inl rfl, .inl rfl⟩, ?_, Nat.zero_le _, ?_⟩
    · exact ⟨rfl, rfl, rfl, rfl, rfl⟩
    · simp [HeatParametersLaw, State.reset, Params.reset]
  case link => exact ⟨Nat.zero_le _, rfl⟩
  case counts => exact ⟨rfl, rfl, rfl, rfl⟩
  case heat => exact heatCounts_clear (h := State.reset.heat)
  case queues =>
    intro k
    cases k <;> exact Nat.zero_le _

/-- Every command keeps every law, and the commands that wait behind it. -/
theorem exec_kept (c : Instr) (s : State) : ∃ t, exec c s = .next t ∧ Kept s t := by
  cases c
  case powerOn =>
    obtain ⟨hconfiguration, hnotice, hlink, hcounts, hheat, hqueues⟩ := resetKeepsLaws
    exact ⟨_, rfl, fun _ => hconfiguration, fun _ => hnotice, fun _ => hlink, fun _ => hcounts, fun _ => hheat,
      fun _ => hqueues, rfl⟩
  case linkReset => exact ⟨_, rfl, id, id, fun _ => ⟨Nat.zero_le _, rfl⟩, id, id, id, rfl⟩
  case descriptorArrival d => exact ⟨_, rfl, descriptorArrival_kept d s⟩
  case read => exact ⟨_, rfl, mediaCommand_kept _ _⟩
  case write => exact ⟨_, rfl, mediaCommand_kept _ _⟩
  case trim => exact ⟨_, rfl, mediaCommand_kept _ _⟩
  case sync => exact ⟨_, rfl, mediaCommand_kept _ _⟩
  case unknownOperation =>
    refine ⟨_, rfl, ?_⟩
    split
    next h => exact (sendCompletion_kept _ _).after (takeHead_kept h)
    next => exact .rfl' s
  case identify => exact ⟨_, rfl, manage_getD_kept _ _ s fun _ _ _ => answerGood_kept _ _ _⟩
  case setGeometry => exact ⟨_, rfl, event_kept fun t => manage_kept _ _ s ownGeometry_kept⟩
  case loadSlots => exact ⟨_, rfl, event_kept fun t => manage_kept _ _ s ownLoadSlots_kept⟩
  case setParametersWrite => exact ⟨_, rfl, event_kept fun t => manage_kept _ _ s ownParameterWrite_kept⟩
  case setParametersRead => exact ⟨_, rfl, manage_getD_kept _ _ s ownParameterRead_kept⟩
  case loadRange => exact ⟨_, rfl, event_kept fun t => manage_kept _ _ s ownLoadRange_kept⟩
  case clearHeatEmpty => exact ⟨_, rfl, manage_getD_kept _ _ s ownClearEmpty_kept⟩
  case clearHeatLevel => exact ⟨_, rfl, manage_getD_kept _ _ s ownClearLevel_kept⟩
  case postJob => exact ⟨_, rfl, event_kept fun t => manage_kept _ _ s ownPostJob_kept⟩
  case ackJob => exact ⟨_, rfl, manage_getD_kept _ _ s ownAckJob_kept⟩
  case setLowest => exact ⟨_, rfl, manage_getD_kept _ _ s ownSetLowest_kept⟩
  case setMask => exact ⟨_, rfl, manage_getD_kept _ _ s ownSetMask_kept⟩
  case pollArbiter => exact ⟨_, rfl, manage_getD_kept _ _ s fun _ _ _ => answerGood_kept _ _ _⟩
  case readJobStatus => exact ⟨_, rfl, manage_getD_kept _ _ s fun _ _ _ => answerGood_kept _ _ _⟩
  case spinUp => exact ⟨_, rfl, event_kept fun t => manage_kept _ _ s fun _ _ _ => placeHold_kept _ _ _⟩
  case spinDown => exact ⟨_, rfl, event_kept fun t => manage_kept _ _ s ownSpinDown_kept⟩
  case portRestart => exact ⟨_, rfl, event_kept fun t => manage_kept _ _ s ownPortRestart_kept⟩
  case readStatus => exact ⟨_, rfl, manage_getD_kept _ _ s ownReadStatus_kept⟩
  case readEvents => exact ⟨_, rfl, manage_getD_kept _ _ s ownReadEvents_kept⟩
  case setEventMask => exact ⟨_, rfl, manage_getD_kept _ _ s ownSetEventMask_kept⟩
  case holdBlocks => exact ⟨_, rfl, event_kept fun t => manage_kept _ _ s ownHoldBlocks_kept⟩
  case setCursor => exact ⟨_, rfl, manage_getD_kept _ _ s ownSetCursor_kept⟩
  case readNext => exact ⟨_, rfl, manage_getD_kept _ _ s ownReadNext_kept⟩
  case enable => exact ⟨_, rfl, event_kept fun t => manage_kept _ _ s ownEnable_kept⟩
  case routePortion o => exact ⟨_, rfl, event_kept fun t => routePortion_kept⟩
  case routeSync => exact ⟨_, rfl, event_kept fun t => routeSync_kept⟩
  case fallbackPieceMake => exact ⟨_, rfl, event_kept fun t => fallbackPieceMake_kept⟩
  case access => exact ⟨_, rfl, oldestAccess_kept s⟩
  case sweepVisit =>
    refine ⟨_, rfl, ?_⟩
    split
    · exact sweep_kept s
    · exact .rfl' s
  case retagVisit => exact ⟨_, rfl, event_kept fun t => retagVisit_kept⟩
  case pinScannerExamination => exact ⟨_, rfl, scanChunk_kept s⟩
  case grant =>
    refine ⟨_, rfl, event_kept fun t h => ?_⟩
    obtain ⟨k, -, rfl⟩ := Option.map_eq_some_iff.mp h
    exact (runMover_kept _ _).after (grant_kept k s)
  case moverIssueRetry c =>
    refine ⟨_, rfl, event_kept fun t h => ?_⟩
    split at h <;> cases h
    exact (runMover_kept _ _).after (advance_kept c s)
  case watchdogExpiry c => exact ⟨_, rfl, event_kept fun t => watchdogExpiry_kept⟩
  case pieceCompletion p id status offset => exact ⟨_, rfl, event_kept fun t => pieceCompletion_kept⟩
  case abortFoundNothing => exact ⟨_, rfl, .rfl' s⟩
  case pieceTimeout p id => exact ⟨_, rfl, event_kept fun t => pieceTimeout_kept⟩
  case probeReady p spindle => exact ⟨_, rfl, event_kept fun t => probeReady_kept⟩
  case probeTimeout p => exact ⟨_, rfl, event_kept fun t => probeTimeout_kept⟩
  case halt => exact ⟨_, rfl, event_kept fun t => haltDisk_kept⟩
  case startReply status => exact ⟨_, rfl, event_kept fun t => startReply_kept⟩
  case stopReply => exact ⟨_, rfl, event_kept fun t => stopReply_kept⟩
  case startTimerExpiry => exact ⟨_, rfl, event_kept fun t => startTimerExpiry_kept⟩
  case retryDelayExpiry => exact ⟨_, rfl, event_kept fun t => retryDelayExpiry_kept⟩
  case idleTimerExpiry => exact ⟨_, rfl, event_kept fun t => idleTimerExpiry_kept⟩
  case reclaimerExamination => exact ⟨_, rfl, event_kept fun t => examination_kept⟩
  case idleFlushExpiry => exact ⟨_, rfl, event_kept fun t => idleFlushExpiry_kept⟩
  case unknownPortMessage => exact ⟨_, rfl, .rfl' s⟩

/-- Settles O2. -/
theorem everyCommandAnswersNext : Obligations.EveryCommandAnswersNext := by
  unfold Obligations.EveryCommandAnswersNext
  intro c s
  obtain ⟨t, hexec, hkept⟩ := exec_kept c s
  exact ⟨t, hexec, hkept.pending⟩

/-- Taking a command from the queue changes nothing the laws speak of. -/
theorem step_laws {s t : State} (h : step s = .next t) : ∃ u : State, u.map = s.map ∧ u.params = s.params ∧
    u.sup = s.sup ∧ u.link = s.link ∧ u.heat = s.heat ∧ u.arbiter = s.arbiter ∧ Kept u t := by
  unfold step at h
  split at h
  · cases h
    exact ⟨s, rfl, rfl, rfl, rfl, rfl, rfl, .rfl' s⟩
  next c rest _ =>
    obtain ⟨v, hexec, hkept⟩ := exec_kept c { s with pending := rest }
    rw [hexec] at h
    cases h
    exact ⟨{ s with pending := rest }, rfl, rfl, rfl, rfl, rfl, rfl, hkept⟩

/-- Settles O57. -/
theorem configurationKept : Obligations.ConfigurationKept := by
  unfold Obligations.ConfigurationKept
  intro s t h hstep
  obtain ⟨u, hmap, hparams, -, -, -, -, hkept⟩ := step_laws hstep
  exact hkept.configuration
    (by simpa only [ConfigurationLaw, GeometryLaw, MarksLaw, PinLimitLaw, hmap, hparams] using h)

/-- Settles O58. -/
theorem interfaceLawsKept : Obligations.InterfaceLawsKept := by
  unfold Obligations.InterfaceLawsKept
  intro s t hnotice hlink hstep
  obtain ⟨u, -, -, hsup, hul, -, -, hkept⟩ := step_laws hstep
  exact ⟨hkept.notice (by simpa only [NoticeLaw, hsup] using hnotice),
    hkept.link (by simpa only [LinkLaw, hul] using hlink)⟩

/-- Settles O59. -/
theorem countsKept : Obligations.CountsKept := by
  unfold Obligations.CountsKept
  intro s t hcounts hheat hqueues hstep
  obtain ⟨u, hmap, -, -, -, huh, harbiter, hkept⟩ := step_laws hstep
  exact ⟨hkept.counts (hmap ▸ hcounts), hkept.heat (huh ▸ hheat), hkept.queues (queuesLaw_of_eq harbiter hqueues)⟩

end Sys2Proof.Machine
end

section
/-! O1, O3, O4, O5, O6, O8, O9. The step, power and link, and what the decoder and the Command Table answer before any
owner sees a descriptor. -/

namespace Sys2Proof.Machine

open Sys2Proof.Safety

/-! ### The descriptor at the head -/

/-- The queue and the flow control apart, the head's leaving changes nothing. -/
@[simp] theorem dequeued_frame (rest : List Descriptor) (s : State) :
    (dequeued rest s).commands = s.commands ∧ (dequeued rest s).routing = s.routing ∧
    (dequeued rest s).map = s.map ∧ (dequeued rest s).ranges = s.ranges ∧ (dequeued rest s).walk = s.walk ∧
    (dequeued rest s).scanner = s.scanner ∧ (dequeued rest s).heat = s.heat ∧
    (dequeued rest s).streams = s.streams ∧ (dequeued rest s).accesses = s.accesses ∧
    (dequeued rest s).arbiter = s.arbiter ∧ (dequeued rest s).mover = s.mover ∧
    (dequeued rest s).reclaimer = s.reclaimer ∧ (dequeued rest s).flash = s.flash ∧
    (dequeued rest s).disk = s.disk ∧ (dequeued rest s).spindle = s.spindle ∧ (dequeued rest s).sup = s.sup ∧
    (dequeued rest s).params = s.params ∧ (dequeued rest s).choice = s.choice ∧
    (dequeued rest s).pending = s.pending := by
  and_intros <;> rfl

@[simp] theorem taken_frame (op : Operation) (d : Descriptor) (rest : List Descriptor) (s : State) :
    (taken op d rest s).routing = s.routing ∧ (taken op d rest s).map = s.map ∧
    (taken op d rest s).ranges = s.ranges ∧ (taken op d rest s).walk = s.walk ∧
    (taken op d rest s).scanner = s.scanner ∧ (taken op d rest s).heat = s.heat ∧
    (taken op d rest s).streams = s.streams ∧ (taken op d rest s).accesses = s.accesses ∧
    (taken op d rest s).arbiter = s.arbiter ∧ (taken op d rest s).mover = s.mover ∧
    (taken op d rest s).reclaimer = s.reclaimer ∧ (taken op d rest s).flash = s.flash ∧
    (taken op d rest s).disk = s.disk ∧ (taken op d rest s).spindle = s.spindle ∧ (taken op d rest s).sup = s.sup ∧
    (taken op d rest s).params = s.params ∧ (taken op d rest s).choice = s.choice ∧
    (taken op d rest s).pending = s.pending := by
  and_intros <;> rfl

@[simp] theorem replied_frame (d : Descriptor) (st : Status) (res : Result) (s : State) :
    (replied d st res s).commands = s.commands ∧ (replied d st res s).routing = s.routing ∧
    (replied d st res s).map = s.map ∧ (replied d st res s).ranges = s.ranges ∧ (replied d st res s).walk = s.walk ∧
    (replied d st res s).scanner = s.scanner ∧ (replied d st res s).heat = s.heat ∧
    (replied d st res s).streams = s.streams ∧ (replied d st res s).accesses = s.accesses ∧
    (replied d st res s).arbiter = s.arbiter ∧ (replied d st res s).mover = s.mover ∧
    (replied d st res s).reclaimer = s.reclaimer ∧ (replied d st res s).flash = s.flash ∧
    (replied d st res s).disk = s.disk ∧ (replied d st res s).spindle = s.spindle ∧
    (replied d st res s).sup = s.sup ∧ (replied d st res s).params = s.params ∧
    (replied d st res s).choice = s.choice ∧ (replied d st res s).pending = s.pending := by
  and_intros <;> rfl

/-! ### Step, power and link -/

/-- Settles O1. -/
theorem stepTakesFrontCommand : Obligations.StepTakesFrontCommand := by
  unfold Obligations.StepTakesFrontCommand
  refine ⟨fun c rest s => rfl, fun s h => ?_⟩
  rw [step, h]

/-- Settles O3: the next state is the reset state but for the model's own two fields. -/
theorem powerOnState : Obligations.PowerOnState := by
  unfold Obligations.PowerOnState
  intro s
  refine ⟨_, rfl, ?_⟩
  and_intros <;> rfl

/-- Settles O4. -/
theorem linkReset : Obligations.LinkReset := by
  unfold Obligations.LinkReset
  intro s orphan
  have horphan : Piece.orphaned = orphan := by
    funext x
    unfold Piece.orphaned orphan
    cases x.owner <;> rfl
  rw [← horphan]
  rfl

/-- Settles O5. -/
theorem descriptorArrival : Obligations.DescriptorArrival := by
  unfold Obligations.DescriptorArrival
  intro d s
  refine ⟨fun hready => ?_, fun hready => ?_⟩
  · rw [exec, execDescriptorArrival, if_pos hready]
    rfl
  · rw [exec, execDescriptorArrival, if_neg (by simp [hready])]

/-! ### No head to take -/

theorem mediaCommand_none {s : State} (op : Operation) (h : s.link.headHold ≠ none ∨ s.link.queue = []) :
    mediaCommand op s = s := by
  rw [mediaCommand, takeHead_none h]

/-- Settles O6: every command of `headCommands` asks for the head first, and gets none. -/
theorem noHeadNoEffect : Obligations.NoHeadNoEffect := by
  unfold Obligations.NoHeadNoEffect
  intro c hc s h
  have media (op : Operation) : mediaCommand op s = s := mediaCommand_none op h
  have judged (op f owner) : event s (manage op f owner s) = s := by rw [manage_none h, event_none]
  have plain (op f owner) : (manage op f owner s).getD s = s := by rw [manage_none h, Option.getD_none]
  have unknown : takeHead (fun d => (operation d).isNone) s = none := takeHead_none h
  simp only [headCommands, List.mem_cons, List.not_mem_nil, or_false] at hc
  rcases hc with rfl | rfl | rfl | rfl | rfl | rfl | rfl | rfl | rfl | rfl | rfl | rfl | rfl | rfl | rfl | rfl | rfl |
    rfl | rfl | rfl | rfl | rfl | rfl | rfl | rfl | rfl | rfl | rfl | rfl <;>
  simp only [exec, execRead, execWrite, execTrim, execSync, execUnknownOperation, execIdentify, execSetGeometry,
    execLoadSlots, execSetParametersWrite, execSetParametersRead, execLoadRange, execClearHeatEmpty, execClearHeatLevel,
    execPostJob, execAckJob, execSetLowest, execSetMask, execPollArbiter, execReadJobStatus, execSpinUp, execSpinDown,
    execPortRestart, execReadStatus, execReadEvents, execSetEventMask, execHoldBlocks, execSetCursor, execReadNext,
    execEnable, media, judged, plain, unknown]

/-! ### Answered at once -/

/-- The commands that take a media descriptor, each with its operation. -/
theorem exec_media {op : Operation} {c : Instr} (s : State)
    (hmem : (op, c) ∈ [(Operation.read, Instr.read), (.write, .write), (.trim, .trim), (.sync, .sync)]) :
    exec c s = .next (mediaCommand op s) := by
  simp only [List.mem_cons, List.not_mem_nil, or_false, Prod.mk.injEq] at hmem
  rcases hmem with ⟨rfl, rfl⟩ | ⟨rfl, rfl⟩ | ⟨rfl, rfl⟩ | ⟨rfl, rfl⟩ <;> rfl

theorem tagHeld_dequeued (t : Nat) (rest : List Descriptor) (s : State) : tagHeld t (dequeued rest s) = tagHeld t s := rfl

/-- The lowest LBA at or beyond the disk of a command that reaches beyond it (R65). -/
theorem addressErrorLba_eq_max (d : Descriptor) (s : State) : addressErrorLba d s = max (lbaOf d) s.map.diskSize := by
  unfold addressErrorLba
  split <;> omega

/-- Settles O8: the three rows are the first three branches of `takeMedia`. -/
theorem mediaAnsweredAtOnce : Obligations.MediaAnsweredAtOnce := by
  unfold Obligations.MediaAnsweredAtOnce
  intro s d rest op c hmem hfree hq hop answered
  have htaken : exec c s = .next (takeMedia op d (dequeued rest s)) := by
    rw [exec_media s hmem, mediaCommand_head hfree hq hop]
  refine ⟨fun hheld => ?conflict, fun hnew hmode => ?notReady, fun hnew hmode hsync hbeyond => ?address⟩ <;>
    rw [htaken, takeMedia, tagHeld_dequeued]
  case conflict =>
    rw [if_pos (tagHeld_true hheld)]
    rfl
  case notReady =>
    rw [if_neg (by simp [tagHeld_false hnew]), if_pos (by simpa using hmode)]
    rfl
  case address =>
    have hreach : hasSpan op = true ∧ beyondDisk d (dequeued rest s) = true :=
      ⟨by simp [hasSpan, hsync], decide_eq_true hbeyond⟩
    rw [if_neg (by simp [tagHeld_false hnew]), if_neg (by simpa using hmode), if_pos hreach, addressErrorLba_eq_max]
    rfl

/-- A SET PARAMETERS descriptor names one of two commands by its access byte (R176). -/
theorem headCommand_setParameters {d : Descriptor} (h : operation d = some .setParameters) :
    headCommand d = if isWriteAccess d then .setParametersWrite else .setParametersRead := by
  rw [headCommand, h]

/-- A CLEAR HEAT descriptor names LEVEL by its option 1 (R177, log entry 22). -/
theorem headCommand_clearHeat {d : Descriptor} (h : operation d = some .clearHeat) :
    headCommand d = if clearOption d = 1 then .clearHeatLevel else .clearHeatEmpty := by
  rw [headCommand, h]
  rfl

/-- Settles O9: a held tag is answered by `manage` itself, whichever owner the operation has. -/
theorem decoderAnswers : Obligations.DecoderAnswers := by
  unfold Obligations.DecoderAnswers
  intro s d rest hfree hq
  refine ⟨fun hunknown => ?unknown, fun op c hmem hhead hop hheld => ?conflict⟩
  case unknown =>
    have htake : takeHead (fun d => (operation d).isNone) s = some (d, dequeued rest s) :=
      takeHead_head hfree hq (by simp [hunknown])
    rw [exec, execUnknownOperation, htake]
    rfl
  case conflict =>
    let conflict : State := replied d .tagConflict .none (dequeued rest s)
    have judged (f owner) (hf : f d = true) : event s (manage op f owner s) = settle s conflict := by
      rw [manage_conflict hfree hq hop hf (tagHeld_true hheld), event_some]
    have plain (f owner) (hf : f d = true) : (manage op f owner s).getD s = conflict := by
      rw [manage_conflict hfree hq hop hf (tagHeld_true hheld), Option.getD_some]
    simp only [managementCommands, List.mem_cons, List.not_mem_nil, or_false, Prod.mk.injEq] at hmem
    rcases hmem with ⟨rfl, rfl⟩ | ⟨rfl, rfl⟩ | ⟨rfl, rfl⟩ | ⟨rfl, rfl⟩ | ⟨rfl, rfl⟩ | ⟨rfl, rfl⟩ | ⟨rfl, rfl⟩ |
      ⟨rfl, rfl⟩ | ⟨rfl, rfl⟩ | ⟨rfl, rfl⟩ | ⟨rfl, rfl⟩ | ⟨rfl, rfl⟩ | ⟨rfl, rfl⟩ | ⟨rfl, rfl⟩ | ⟨rfl, rfl⟩ |
      ⟨rfl, rfl⟩ | ⟨rfl, rfl⟩ | ⟨rfl, rfl⟩ | ⟨rfl, rfl⟩ | ⟨rfl, rfl⟩ | ⟨rfl, rfl⟩ | ⟨rfl, rfl⟩ | ⟨rfl, rfl⟩ |
      ⟨rfl, rfl⟩ <;> refine ⟨_, rfl, ?_⟩
    · exact .inl (plain anyDescriptor _ rfl)
    · exact .inr (judged anyDescriptor _ rfl)
    · exact .inr (judged anyDescriptor _ rfl)
    · rw [headCommand_setParameters hop] at hhead
      exact .inr (judged isWriteAccess _ (by split at hhead <;> simp_all))
    · rw [headCommand_setParameters hop] at hhead
      exact .inl (plain (fun d => !isWriteAccess d) _ (by split at hhead <;> simp_all))
    · exact .inr (judged anyDescriptor _ rfl)
    · rw [headCommand_clearHeat hop] at hhead
      exact .inl (plain (fun d => clearOption d != 1) _ (by split at hhead <;> simp_all))
    · rw [headCommand_clearHeat hop] at hhead
      exact .inl (plain (fun d => clearOption d != 0) _ (by split at hhead <;> simp_all))
    · exact .inr (judged anyDescriptor _ rfl)
    · exact .inl (plain anyDescriptor _ rfl)
    · exact .inl (plain anyDescriptor _ rfl)
    · exact .inl (plain anyDescriptor _ rfl)
    · exact .inl (plain anyDescriptor _ rfl)
    · exact .inl (plain anyDescriptor _ rfl)
    · exact .inr (judged anyDescriptor _ rfl)
    · exact .inr (judged anyDescriptor _ rfl)
    · exact .inr (judged anyDescriptor _ rfl)
    · exact .inl (plain anyDescriptor _ rfl)
    · exact .inl (plain anyDescriptor _ rfl)
    · exact .inl (plain anyDescriptor _ rfl)
    · exact .inr (judged anyDescriptor _ rfl)
    · exact .inl (plain anyDescriptor _ rfl)
    · exact .inl (plain anyDescriptor _ rfl)
    · exact .inr (judged anyDescriptor _ rfl)

/-! ### Accepted media descriptors -/

/-- A record whose next LBA is the command's is found, and leaves its place (R27). -/
theorem streams_matched {x : StreamRec} {before behind : List StreamRec} {lba : Nat} (hx : x.next = lba)
    (hbefore : ∀ r ∈ before, r.next ≠ lba) :
    (before ++ x :: behind).find? (fun r => r.next == lba) = some x ∧
      (before ++ x :: behind).eraseP (fun r => r.next == lba) = before ++ behind := by
  have hnone : before.find? (fun r => r.next == lba) = none := by simpa using hbefore
  constructor
  · simp [List.find?_append, hnone, hx]
  · rw [List.eraseP_append_right _ (by simpa using hbefore)]
    simp [hx]

theorem streamUpdate_matched {x : StreamRec} {before behind : List StreamRec} {lba : Nat} (count : Nat)
    (hx : x.next = lba) (hbefore : ∀ r ∈ before, r.next ≠ lba) :
    streamRun (before ++ x :: behind) lba count = min 65535 (x.run + count) ∧
      streamUpdate (before ++ x :: behind) lba count = ⟨lba + count, min 65535 (x.run + count)⟩ ::
        (before ++ behind).filter (fun r => r.next != lba + count) := by
  obtain ⟨hfind, herase⟩ := streams_matched (behind := behind) hx hbefore
  simp [streamUpdate, streamRun, hfind, herase]

theorem streamUpdate_new {streams : List StreamRec} {lba : Nat} (count : Nat) (h : ∀ r ∈ streams, r.next ≠ lba) :
    streamRun streams lba count = min 65535 count ∧
      streamUpdate streams lba count = ⟨lba + count, min 65535 count⟩ ::
        (streams.take 3).filter (fun r => r.next != lba + count) := by
  have hnone : streams.find? (fun r => r.next == lba) = none := by simpa using h
  simp [streamUpdate, streamRun, hnone, Config.streamRecords]

/-- The Stream Detector's part in a READ, WRITE or TRIM: it sees a READ or WRITE while Heat is not held (R27). -/
def detects (op : Operation) (s : State) : Bool := op ≠ .trim && s.held .heat = false

/-- The record that an accepted READ, WRITE or TRIM takes, with the run length that the streams give it (R28, R66). -/
def spanRecord (op : Operation) (d : Descriptor) (run : Nat) (s : State) : CommandRec where
  tag := tagOf d
  kind := op
  lba := lbaOf d
  count := countOf d
  buffer := if op = .trim then 0#64 else bufferRefOf d
  streaming := detects op s && decide (s.params.streamThreshold ≤ run)
  cursor := lbaOf d
  routingDone := false
  outstanding := 0
  fallbackList := []
  fallbackPieces := []
  status := .good
  errorLba := none

theorem acceptMedia_span {op : Operation} (hop : op = .read ∨ op = .write ∨ op = .trim) (d : Descriptor) (s : State) :
    acceptMedia op d s = { s with
      commands := s.commands ++ [spanRecord op d (streamRun s.streams (lbaOf d) (countOf d)) s]
      routing := s.routing ++ [tagOf d]
      streams := if detects op s then streamUpdate s.streams (lbaOf d) (countOf d) else s.streams } := by
  cases hheld : s.held .heat <;> rcases hop with rfl | rfl | rfl <;>
    simp [acceptMedia, mediaRecord, spanRecord, detects, detectStream, streamingFlag, movesData, hasSpan, hheld]

/-- A media descriptor that no row of R65 answers is accepted. -/
theorem takeMedia_accepted {op : Operation} {d : Descriptor} {s : State} (hnew : ∀ r ∈ s.commands, r.tag ≠ tagOf d)
    (hmode : s.sup.mode ≠ .loading) (hfits : op = .sync ∨ lbaOf d + countOf d ≤ s.map.diskSize) :
    takeMedia op d s = acceptMedia op d s := by
  have hinside : ¬ (hasSpan op = true ∧ beyondDisk d s = true) := by
    rintro ⟨hspan, hbeyond⟩
    have hlt : s.map.diskSize < lbaOf d + countOf d := of_decide_eq_true hbeyond
    rcases hfits with rfl | hle
    · exact absurd hspan (by decide)
    · omega
  rw [takeMedia, if_neg (by simp [tagHeld_false hnew]), if_neg hmode, if_neg hinside]

/-- Settles O7: the record is `spanRecord`, and the two ways of the streams are `streamUpdate_matched` and
`streamUpdate_new`. -/
theorem mediaAccepted : Obligations.MediaAccepted := by
  unfold Obligations.MediaAccepted
  intro s d rest hmode
  refine ⟨?span, fun hhead => ?sync⟩
  case span =>
    intro op c hmem hhead hfits sees next accepted
    obtain ⟨hfree, hq, hop, hnew⟩ := hhead
    have hkind : op = .read ∨ op = .write ∨ op = .trim := by
      simp only [List.mem_cons, List.not_mem_nil, or_false, Prod.mk.injEq] at hmem
      obtain ⟨h, -⟩ | ⟨h, -⟩ | ⟨h, -⟩ := hmem <;> simp [h]
    have haccept : exec c s = .next (acceptMedia op d (dequeued rest s)) := by
      rw [exec_media s (by exact List.mem_append_left [(.sync, .sync)] hmem),
        mediaCommand_head hfree hq hop, takeMedia_accepted (s := dequeued rest s) hnew hmode (.inr hfits)]
    have hrun (run : Nat) (streams : List StreamRec) (h : streamRun s.streams (lbaOf d) (countOf d) = run)
        (hu : streamUpdate s.streams (lbaOf d) (countOf d) = ⟨next, run⟩ :: streams.filter (fun r => r.next != next)) :
        exec c s = .next (accepted run streams) := by
      rw [haccept, acceptMedia_span hkind]
      subst h
      simp only [accepted, ← hu]
      rfl
    refine ⟨fun x before behind hstreams hx hbefore => ?_, fun hnone => ?_⟩
    · obtain ⟨hr, hu⟩ := streamUpdate_matched (behind := behind) (countOf d) hx hbefore
      exact hrun _ _ (hstreams ▸ hr) (hstreams ▸ hu)
    · obtain ⟨hr, hu⟩ := streamUpdate_new (countOf d) hnone
      exact hrun _ _ hr hu
  case sync =>
    obtain ⟨hfree, hq, hop, hnew⟩ := hhead
    rw [exec_media (op := .sync) s (by simp), mediaCommand_head hfree hq hop,
      takeMedia_accepted (s := dequeued rest s) hnew hmode (.inl rfl)]
    rfl

end Sys2Proof.Machine
end

section
/-! O11, O12, O13, O14, O21, O25. The management commands that the part does not judge at their end: each is its owner on
the state with the record taken, and its completion frees that record again. -/

namespace Sys2Proof.Machine

open Sys2Proof.Safety

section

variable {s : State} {op : Operation} {d : Descriptor} {rest : List Descriptor}

/-- A management command that is no event is its owner's work. -/
theorem plain_head {f : Descriptor → Bool} {owner : Descriptor → Nat → State → State} (h : HeadIs op d rest s)
    (hf : f d = true) : (manage op f owner s).getD s = owner d (tagOf d) (taken op d rest s) := by
  rw [manage_taken h hf, Option.getD_some]

/-- A management command that is an event is its owner's work, judged at its end. -/
theorem judged_head {owner : Descriptor → Nat → State → State} (h : HeadIs op d rest s) :
    event s (manage op anyDescriptor owner s) = settle s (owner d (tagOf d) (taken op d rest s)) := by
  rw [manage_any h, event_some]

theorem answerGood_of {u : State} (h : HeadIs op d rest s)
    (hu : u.commands = s.commands ++ [managementRecord (tagOf d) op]) (res : Result) :
    answerGood (tagOf d) res u = replied d .good res { u with commands := s.commands } := answer_of h hu .good res

end

/-! ### Reports -/

/-- Settles O12: the report reads the state with READ STATUS's own record taken (log entry 15). -/
theorem readStatusReports : Obligations.ReadStatusReports := by
  unfold Obligations.ReadStatusReports
  intro s d rest h flag
  have hreport : statusReport (taken .readStatus d rest s) = .fields [
      some s.sup.mode.code, some s.flash.status.code, some s.disk.status.code,
      some s.spindle.state.code, flag s.spindle.startFailed, flag s.spindle.restartPending,
      flag s.spindle.retryTimer.isSome, flag s.spindle.pendingSpinDown,
      some s.map.freeCount, some s.map.dirtyCount, some s.map.pinnedCount,
      some s.heat.candidateCount, some s.heat.usedCount, flag s.sup.freeBelow, flag s.sup.dirtyAbove,
      some s.params.markH, some s.params.markL, some s.params.markC, some s.params.markDh, some s.params.markDr,
      some s.params.pinLimit, some s.params.tp, some s.params.td, some s.sup.holds.toNat,
      some (s.commands.length + 1),
      some (s.flash.list.length + s.flash.withheld.length + (s.disk.list.length + s.disk.withheld.length))] := by
    have hcommands : (taken .readStatus d rest s).commands.length = s.commands.length + 1 := by simp [taken]
    have hpool : poolInUse (taken .readStatus d rest s) =
        s.flash.list.length + s.flash.withheld.length + (s.disk.list.length + s.disk.withheld.length) := by
      simp [poolInUse, PortUnit.recordIds]
    simp only [statusReport, hcommands, hpool, taken_frame]
    rfl
  rw [exec, execReadStatus, plain_head h rfl, ownReadStatus, hreport, answerGood_of h rfl]
  rfl

/-- Settles O13. -/
theorem eventFlagCommands : Obligations.EventFlagCommands := by
  unfold Obligations.EventFlagCommands
  intro s d rest
  refine ⟨fun h => ?read, fun h => ?mask⟩
  case read =>
    have hline : noticeLine 0#12 s.sup.mask = false := by simp [noticeLine]
    rw [exec, execReadEvents, plain_head h rfl, ownReadEvents, answerGood_of h rfl]
    simp only [Supervision.drive, taken_frame, hline]
    rfl
  case mask =>
    have hresult : (BitVec.ofNat 12 (headerField d 4 2)).toNat = headerField d 4 2 % 4096 := BitVec.toNat_ofNat _ _
    rw [exec, execSetEventMask, plain_head h rfl, ownSetEventMask, answerGood_of h rfl, hresult]
    rfl

/-- One class's row of POLL ARBITER does not depend on the Command Table (R127). -/
theorem classReport_eq (s : State) (k : JobClass) : classReport s k =
    [some (s.arbiter.queues.get k).length, some (!(s.arbiter.queues.get k).isEmpty).toNat, some (eligible s k).toNat,
      some (s.arbiter.service.get k).code, some (s.params.pacing.get k).code] ++
    (match s.arbiter.service.get k with
      | .job _ j c => [some j.target.named, some (ctxNumber c)]
      | .none | .awaitAck => [none, none]) := rfl

/-- Settles O11. Each item of the statement spells a code of R179 that the model has as a function; the cases of those
codes are all there is to compare. -/
theorem reportsChangeNothing : Obligations.ReportsChangeNothing := by
  unfold Obligations.ReportsChangeNothing
  intro s d rest flag job state row atPort fillOnly flushOnly context failure
  refine ⟨fun h => ?arbiter, fun h => ?job⟩
  case arbiter =>
    have hrow (k : JobClass) : classReport (taken .pollArbiter d rest s) k = row k := by
      have hstate : (s.arbiter.service.get k).code = state k := by
        unfold state
        cases s.arbiter.service.get k with
        | none => rfl
        | job st j c => cases st <;> rfl
        | awaitAck => rfl
      have hjob : (match s.arbiter.service.get k with
          | .job _ j c => [some j.target.named, some (ctxNumber c)]
          | .none | .awaitAck => [none, none]) = job k := by
        unfold job
        cases s.arbiter.service.get k with
        | none => rfl
        | job st j c => cases j.target <;> cases c <;> rfl
        | awaitAck => rfl
      have hreport : classReport (taken .pollArbiter d rest s) k = classReport s k := rfl
      unfold row
      rw [← hjob, ← hstate, hreport, classReport_eq]
      cases s.params.pacing.get k <;> rfl
    have hreport : arbiterReport (taken .pollArbiter d rest s) = .fields
        ((nextGrant s).map (·.number) ::
          (row .flushUrgent ++ row .pinFill ++ row .directed ++ row .hotFill ++ row .flushIdle) ++
          [some s.arbiter.mask.toNat, some s.arbiter.lowest.number, some s.params.priority.code]) := by
      simp only [← hrow, arbiterReport, allClasses, List.flatMap_cons, List.flatMap_nil, List.append_nil,
        List.append_assoc]
      rfl
    rw [exec, execPollArbiter, plain_head h rfl, ownPollArbiter, answerGood_of h rfl, hreport]
    cases s.params.priority <;> rfl
  case job =>
    have hcontext (c : CtxId) : contextReport (taken .readJobStatus d rest s) c = context c := by
      have hctx : (taken .readJobStatus d rest s).ctx c = s.ctx c := by cases c <;> rfl
      have hat (id : Nat) : (pieceStateOf (taken .readJobStatus d rest s) id).map (·.code) = atPort id := by
        unfold atPort pieceStateOf
        rw [Option.map_map]
        exact congrArg (Option.map · _) (funext fun x => by cases hx : x.state <;> simp [PieceState.code, hx])
      have hstate (k : JobClass) : (s.arbiter.service.get k).code = state k := by
        unfold state
        cases s.arbiter.service.get k with
        | none => rfl
        | job st j c => cases st <;> rfl
        | awaitAck => rfl
      unfold context contextReport
      rw [hctx]
      cases s.ctx c with
      | none => rfl
      | some x =>
        simp only [hat, taken_frame, hstate]
        cases hx : x.action <;> rcases ha : x.abort with _ | _ | _ <;>
          simp [fillOnly, flushOnly, hx, flagField, flag, abortCode]
    have hfailure : failureReport s.mover.failure = failure := by
      unfold failure
      cases s.mover.failure <;> rfl
    rw [exec, execReadJobStatus, plain_head h rfl, ownReadJobStatus, answerGood_of h rfl, ← hfailure]
    simp only [← hcontext]
    rfl

/-! ### The table-read cursor -/

theorem cursorTable_ofCode_none {n : Nat} (h : 2 < n) : CursorTable.ofCode n = none :=
  match n, h with
  | _ + 3, _ => rfl

/-- Settles O14. -/
theorem tableReadCursor : Obligations.TableReadCursor := by
  unfold Obligations.TableReadCursor
  intro s d rest
  refine ⟨fun h => ?set, fun h => ?next⟩
  case set =>
    intro i set refused
    have hset (n : Nat) (hn : headerField d 4 1 = n) : exec .setCursor s = .next (match CursorTable.ofCode n with
        | none => refused
        | some table => if tableSize s table ≤ i then refused else set table) := by
      rw [exec, execSetCursor, plain_head h rfl, ownSetCursor, hn]
      cases CursorTable.ofCode n with
      | none => rw [refuse_taken h]
      | some table =>
        have hsize : tableSize (taken .setCursor d rest s) table = tableSize s table := by cases table <;> rfl
        simp only [hsize, refuse_taken h, answerGood_of (u := { taken .setCursor d rest s with
          sup := { (taken .setCursor d rest s).sup with cursor := ⟨table, headerField d 8 4, d.header.getLsbD 40⟩ } }) h
          rfl]
        rfl
    have hswap (n : Nat) (a b : State) : (if n ≤ i then a else b) = if i < n then b else a := by
      simp only [← Nat.not_le, ite_not]
    refine ⟨fun hn => ?_, fun hn => ?_, fun hn => ?_, fun hn => ?_⟩
    · rw [hset 0 hn]
      exact congrArg _ (hswap _ _ _)
    · rw [hset 1 hn]
      exact congrArg _ (hswap _ _ _)
    · rw [hset 2 hn]
      exact congrArg _ (hswap _ _ _)
    · rw [hset _ rfl, cursorTable_ofCode_none hn]
  case next =>
    intro cur size record
    have hsize : tableSize (taken .readNext d rest s) cur.table = size := by
      unfold size
      cases cur.table <;> rfl
    have hrecord : cursorRecord (taken .readNext d rest s) = record := by
      have htable : (taken .readNext d rest s).sup.cursor.table = cur.table := rfl
      unfold record cursorRecord
      dsimp only
      rw [htable]
      cases cur.table <;> rfl
    have hown : exec .readNext s = .next (if size ≤ cur.index then replied d .badIndex .none (dequeued rest s)
        else replied d .good record { dequeued rest s with sup := { s.sup with cursor := cur.advanced size } }) := by
      have hcursor : (taken .readNext d rest s).sup.cursor = cur := rfl
      rw [exec, execReadNext, plain_head h rfl, ownReadNext, hcursor, hsize, hrecord, refuse_taken h, answerGood_of h rfl]
      rfl
    refine ⟨fun hlt => ?_, fun hle => ?_⟩
    · have hadvanced : cur.advanced size =
          { cur with index := if cur.autoIncrement then (cur.index + 1) % size else cur.index } := by
        unfold Cursor.advanced
        split
        next hauto =>
          split
          next hroom => rw [Nat.mod_eq_of_lt hroom]
          next hend =>
            have hwrap : cur.index + 1 = size := by omega
            rw [hwrap, Nat.mod_self]
        next => rfl
      rw [hown, if_neg (by omega), hadvanced]
    · rw [hown, if_pos hle]

/-! ### CLEAR HEAT, ACK JOB, SET LOWEST, SET MASK -/

/-- Settles O21. -/
theorem clearHeatSettled : Obligations.ClearHeat := by
  unfold Obligations.ClearHeat
  intro s d rest h
  have hempty (hf : clearOption d ≠ 1) :
      exec .clearHeatEmpty s = .next (ownClearEmpty d (tagOf d) (taken .clearHeat d rest s)) := by
    rw [exec, execClearHeatEmpty, plain_head h (by simpa using hf)]
  have hlevel (hf : clearOption d ≠ 0) :
      exec .clearHeatLevel s = .next (ownClearLevel d (tagOf d) (taken .clearHeat d rest s)) := by
    rw [exec, execClearHeatLevel, plain_head h (by simpa using hf)]
  refine ⟨fun hopt => ?empty, fun hopt => ?level, fun hopt => ?bad⟩
  case empty =>
    have h0 : clearOption d = 0 := hopt
    rw [hempty (by omega), ownClearEmpty, if_pos h0, answerGood_of h rfl]
    rfl
  case level =>
    have h1 : clearOption d = 1 := hopt
    rw [hlevel (by omega), ownClearLevel, if_pos h1, answerGood_of h rfl]
    rfl
  case bad =>
    have h2 : 1 < clearOption d := hopt
    rw [hempty (by omega), hlevel (by omega), ownClearEmpty, ownClearLevel, if_neg (by omega), if_neg (by omega),
      refuse_taken h]
    exact ⟨rfl, rfl⟩

theorem jobClass_ofNumber_none {n : Nat} (h : 4 < n) : JobClass.ofNumber n = none :=
  match n, h with
  | _ + 5, _ => rfl

theorem jobClass_number_ofNumber {n : Nat} {k : JobClass} (h : JobClass.ofNumber n = some k) : k.number = n := by
  unfold JobClass.ofNumber at h
  split at h <;> cases h <;> rfl

/-- Settles O25. -/
theorem arbiterCommands : Obligations.ArbiterCommands := by
  unfold Obligations.ArbiterCommands
  intro s d rest badIndex
  refine ⟨fun k h hk => ?ack, fun h hbad => ?ackBad, fun k h hk => ?lowest, fun h hbad => ?lowestBad, fun h => ?mask⟩
  case ack =>
    have hown : exec .ackJob s = .next (if s.arbiter.service.get k = .awaitAck then
        answerGood (tagOf d) (.fields [some (s.arbiter.queues.get k).length]) (endServiceOf k (taken .ackJob d rest s))
        else replied d .notPermitted .none (dequeued rest s)) := by
      rw [exec, execAckJob, plain_head h rfl, ownAckJob, hk, ← refuse_taken h]
      rfl
    refine ⟨fun hawait => ?_, fun hother => ?_⟩
    · have hcommands : (endServiceOf k (taken .ackJob d rest s)).commands =
          s.commands ++ [managementRecord (tagOf d) .ackJob] := by simp [taken]
      have harbiter : { endServiceOf k (taken .ackJob d rest s) with commands := s.commands } = { dequeued rest s with
          arbiter := { s.arbiter with
            service := s.arbiter.service.set k .none
            lowest := if s.params.priority = .rotating then k else s.arbiter.lowest } } := by
        have hpriority : (setService k .none (taken .ackJob d rest s)).params = s.params := rfl
        rw [endServiceOf, hpriority]
        split
        next hr =>
          have hr : s.params.priority = .rotating := hr
          rw [if_pos hr]
          rfl
        next hr =>
          have hr : s.params.priority ≠ .rotating := hr
          rw [if_neg hr]
          rfl
      rw [hown, if_pos hawait, answerGood_of h hcommands, harbiter]
    · rw [hown, if_neg hother]
  case ackBad => rw [exec, execAckJob, plain_head h rfl, ownAckJob, jobClass_ofNumber_none hbad, refuse_taken h]
  case lowest =>
    rw [exec, execSetLowest, plain_head h rfl, ownSetLowest, hk]
    dsimp only
    rw [answerGood_of h rfl, jobClass_number_ofNumber hk]
    rfl
  case lowestBad =>
    rw [exec, execSetLowest, plain_head h rfl, ownSetLowest, jobClass_ofNumber_none hbad, refuse_taken h]
  case mask =>
    have hresult : (BitVec.ofNat 5 (headerField d 4 1)).toNat = headerField d 4 1 % 32 := BitVec.toNat_ofNat _ _
    rw [exec, execSetMask, plain_head h rfl, ownSetMask, answerGood_of h rfl, hresult]
    rfl

end Sys2Proof.Machine
end

section
/-! O15, O16, O19, O20, O24, O28, O29. The management commands that the part judges at their end: each is `settle` of its
owner's work on the state with the record taken. -/

namespace Sys2Proof.Machine

open Sys2Proof.Safety

/-! ### Geometry -/

theorem geometryFits_iff {n D : Nat} {s : State} : geometryFits n D s = true ↔
    64 ≤ n ∧ n ≤ 65536 ∧ 2 ^ 16 ≤ D ∧ D ≤ 2 ^ 40 ∧ D % 256 = 0 ∧ ∀ r, some r ∈ s.ranges → r.last < D := by
  have hranges : s.ranges.all (fun e => e.all (fun r => r.last < D)) = true ↔ ∀ r, some r ∈ s.ranges → r.last < D := by
    rw [List.all_eq_true]
    refine ⟨fun h r hr => by simpa using h _ hr, fun h e he => ?_⟩
    cases e with
    | none => rfl
    | some r => simpa using h r he
  simp only [geometryFits, Bool.and_eq_true, hranges, decide_eq_true_eq, beq_iff_eq, and_assoc]

/-- Settles O15. -/
theorem setGeometry : Obligations.SetGeometry := by
  unfold Obligations.SetGeometry
  intro s d rest h n D refused
  have hown : exec .setGeometry s = .next (settle s (ownGeometry d (tagOf d) (taken .setGeometry d rest s))) := by
    rw [exec, execSetGeometry, judged_head h]
  have hrefused (st : Status) : refuse (tagOf d) st (taken .setGeometry d rest s) =
      replied d st .none (dequeued rest s) := refuse_taken h st
  have hfits : geometryFits (headerField d 4 4) (headerField d 8 6) (taken .setGeometry d rest s) = true ↔
      64 ≤ n ∧ n ≤ 65536 ∧ 2 ^ 16 ≤ D ∧ D ≤ 2 ^ 40 ∧ D % 256 = 0 ∧ ∀ r, some r ∈ s.ranges → r.last < D :=
    geometryFits_iff
  have hmode : (taken .setGeometry d rest s).sup.mode = s.sup.mode := rfl
  have hwalk : (taken .setGeometry d rest s).walk = s.walk := rfl
  rw [hown]
  refine ⟨fun hload hnone h1 h2 h3 h4 h5 h6 => ?accept, fun hbad => ?refuse, fun hload hnone hbad => ?record⟩
  case accept =>
    rw [ownGeometry, hmode, hwalk, if_neg (by simp [hload, hnone]), if_pos (hfits.mpr ⟨h1, h2, h3, h4, h5, h6⟩),
      answerGood_of h rfl]
    rfl
  case refuse =>
    rw [ownGeometry, hmode, hwalk, if_pos (by rwa [Option.isSome_iff_ne_none]), hrefused]
  case record =>
    have hnot : ¬ geometryFits (headerField d 4 4) (headerField d 8 6) (taken .setGeometry d rest s) = true := by
      rw [hfits]
      rintro ⟨h1, h2, h3, h4, h5, h6⟩
      rcases hbad with hb | hb | hb | hb | hb | ⟨r, hr, hb⟩
      · omega
      · omega
      · omega
      · omega
      · exact hb h5
      · exact Nat.not_le_of_lt (h6 r hr) hb
    rw [ownGeometry, hmode, hwalk, if_neg (by simp [hload, hnone]), if_neg hnot, hrefused]

/-! ### LOAD SLOTS -/

/-- One record of LOAD SLOTS written into the map (R21), with the pinned flags that the Range Table of `s` gives. -/
def loadSlot (s u : State) (r : SlotLoad) : State := putSlot r.slot (loadedSlot r s) u

theorem loadedSlot_of_ranges {s u : State} (h : u.ranges = s.ranges) (r : SlotLoad) :
    loadedSlot r u = loadedSlot r s := by simp only [loadedSlot, chunkIn, h]

theorem loadSlot_ranges {s u : State} (h : u.ranges = s.ranges) (r : SlotLoad) : (loadSlot s u r).ranges = s.ranges := by
  simp [loadSlot, h]

/-- LOAD SLOTS whose records all pass, each on the map as those before it leave it (R20). -/
theorem loadRecords_pass {s : State} : ∀ (l : List SlotLoad) (k : Nat) (u : State), u.ranges = s.ranges →
    (∀ j (hj : j < l.length), loadRefusal l[j] ((l.take j).foldl (loadSlot s) u) = none) →
    loadRecords l k u = .inr (l.foldl (loadSlot s) u)
  | [], _, _, _, _ => rfl
  | r :: l, k, u, hr, hpass => by
    have hfirst : loadRefusal r u = none := hpass 0 (by simp)
    have hnext := loadRecords_pass l (k + 1) (loadSlot s u r) (loadSlot_ranges hr r)
      (fun j hj => hpass (j + 1) (by simpa using hj))
    rw [loadRecords, hfirst, loadedSlot_of_ranges hr]
    exact hnext

/-- LOAD SLOTS with a record that fails a check: the first of them is the one reported (R20). -/
theorem loadRecords_fail {s : State} {st : Status} : ∀ (l : List SlotLoad) (k : Nat) (u : State) (i : Nat),
    u.ranges = s.ranges → (∀ j (hj : j < l.length), j < i → loadRefusal l[j] ((l.take j).foldl (loadSlot s) u) = none) →
    (hi : i < l.length) → loadRefusal l[i] ((l.take i).foldl (loadSlot s) u) = some st →
    loadRecords l k u = .inl (st, k + i)
  | [], _, _, _, _, _, hi, _ => by simp at hi
  | r :: l, k, u, 0, _, _, _, hfail => by
    have hfirst : loadRefusal r u = some st := hfail
    rw [loadRecords, hfirst]
    rfl
  | r :: l, k, u, i + 1, hr, hpass, hi, hfail => by
    have hfirst : loadRefusal r u = none := hpass 0 (by simp) (by omega)
    have hnext := loadRecords_fail l (k + 1) (loadSlot s u r) i (loadSlot_ranges hr r)
      (fun j hj hlt => hpass (j + 1) (by simpa using hj) (by omega)) (by simpa using hi) hfail
    rw [loadRecords, hfirst, loadedSlot_of_ranges hr, show k + (i + 1) = k + 1 + i by omega]
    exact hnext

/-- LOAD SLOTS does not look at the Command Table. -/
theorem loadRecords_commands (c : List CommandRec) : ∀ (l : List SlotLoad) (k : Nat) (u : State),
    loadRecords l k { u with commands := c } = (loadRecords l k u).map id (fun v => { v with commands := c })
  | [], _, _ => rfl
  | r :: l, k, u => by
    have hrefusal : loadRefusal r { u with commands := c } = loadRefusal r u := rfl
    have hput : putSlot r.slot (loadedSlot r { u with commands := c }) { u with commands := c } =
        { putSlot r.slot (loadedSlot r u) u with commands := c } := (putSlot_commands _ _ _ _).symm
    rw [loadRecords, loadRecords, hrefusal, hput]
    cases loadRefusal r u with
    | some _ => rfl
    | none => exact loadRecords_commands c l (k + 1) _

/-- The checks of R20 on one record, in their order. -/
theorem loadRefusal_eq (r : SlotLoad) (u : State) : loadRefusal r u =
    if u.map.slotCount ≤ r.slot then some .badIndex
    else if r.stateCode ≠ 0 ∧ r.stateCode ≠ 1 then some .badRecord
    else if r.stateCode = 0 ∧ (r.chunkPresent = true ∨ r.valid ≠ 0#256 ∨ r.dirty ≠ 0#256) then some .badRecord
    else if r.stateCode = 1 ∧ (r.chunkPresent = false ∨ u.map.diskSize / 256 ≤ r.chunk) then some .badRecord
    else if r.stateCode = 1 ∧ r.valid = 0#256 then some .badRecord
    else if r.dirty &&& r.valid ≠ r.dirty then some .badRecord
    else if r.stateCode = 1 ∧ (∃ i, u.map.slotOf r.chunk = some i ∧ i ≠ r.slot) then some .duplicateChunk
    else none := by
  have hany : (u.map.slotOf r.chunk).any (· != r.slot) = true ↔ ∃ i, u.map.slotOf r.chunk = some i ∧ i ≠ r.slot := by
    simp [Option.any_eq_true]
  have hsubset : isSubset r.dirty r.valid = false ↔ r.dirty &&& r.valid ≠ r.dirty := by simp [isSubset]
  simp only [loadRefusal, hany, hsubset]

/-- Settles O16. -/
theorem loadSlots : Obligations.LoadSlots := by
  unfold Obligations.LoadSlots
  intro s d rest h n written load image refused
  have hown : exec .loadSlots s = .next (settle s (ownLoadSlots d (tagOf d) (taken .loadSlots d rest s))) := by
    rw [exec, execLoadSlots, judged_head h]
  have hmode : (taken .loadSlots d rest s).sup.mode = s.sup.mode := rfl
  have hload : load = loadSlot s := rfl
  have htake (j : Nat) (hj : j ≤ n) : ((slotLoads d n).take j).foldl (loadSlot s) (dequeued rest s) = image j := by
    have himage : image j = ((List.range j).map (slotLoad d)).foldl (loadSlot s) (dequeued rest s) := rfl
    rw [himage, slotLoads, ← List.map_take, List.take_range, Nat.min_eq_left hj]
  have hlength : (slotLoads d n).length = n := by simp [slotLoads]
  have hrecord (j : Nat) (hj : j < (slotLoads d n).length) : (slotLoads d n)[j] = slotLoad d j := by simp [slotLoads]
  have htaken : loadRecords (slotLoads d n) 0 (taken .loadSlots d rest s) =
      (loadRecords (slotLoads d n) 0 (dequeued rest s)).map id
        (fun v => { v with commands := s.commands ++ [managementRecord (tagOf d) .loadSlots] }) :=
    loadRecords_commands _ _ _ _
  rw [hown]
  refine ⟨fun hmode1 h1 h4 => ⟨fun hpass => ?all, fun k st hk hpass hfail => ?fails⟩, fun hother => ?notPermitted,
    fun hmode1 hn => ?count, fun r u => loadRefusal_eq r u⟩
  case all =>
    have hrun : loadRecords (slotLoads d n) 0 (dequeued rest s) = .inr (image n) := by
      rw [loadRecords_pass (s := s) (slotLoads d n) 0 (dequeued rest s) rfl, ← htake n (Nat.le_refl n),
        List.take_of_length_le (by omega)]
      intro j hj
      rw [hrecord, htake j (by omega)]
      exact hpass j (by omega)
    have hcommands : (image n).commands = s.commands := by
      have hkeeps : ∀ (l : List SlotLoad) (u : State), (l.foldl (loadSlot s) u).commands = u.commands := by
        intro l
        induction l with
        | nil => exact fun _ => rfl
        | cons r l ih => exact fun u => by simp [ih, loadSlot]
      exact hkeeps _ _
    rw [ownLoadSlots, hmode, if_neg (by simp [hmode1]), if_neg (by omega), htaken, hrun]
    rw [Sum.map_inr]
    dsimp only
    rw [answerGood_of h rfl, ← hcommands]
  case fails =>
    have hrun : loadRecords (slotLoads d n) 0 (dequeued rest s) = .inl (st, 0 + k) := by
      refine loadRecords_fail (s := s) (slotLoads d n) 0 (dequeued rest s) k rfl (fun j hj hlt => ?_) (by omega) ?_
      · rw [hrecord, htake j (by omega)]
        exact hpass j hlt
      · rw [hrecord, htake k (by omega)]
        exact hfail
    rw [ownLoadSlots, hmode, if_neg (by simp [hmode1]), if_neg (by omega), htaken, hrun, Nat.zero_add]
    rw [Sum.map_inl]
    dsimp only [id]
    rw [answer_of h rfl]
    rfl
  case notPermitted => rw [ownLoadSlots, hmode, if_pos hother, refuse_taken h]
  case count =>
    rw [ownLoadSlots, hmode, if_neg (by simp [hmode1]), if_pos hn, answer_of h rfl]
    rfl

/-! ### Marks -/

/-- The five marks clamped in their order, and the pin limit to S − H (R146, R58). -/
theorem clampMarks_eq (p : Params) (slots : Nat) (h : slots ≠ 0) : p.clampMarks slots =
    let H := max 2 (min slots p.markH)
    let L := max 1 (min (H - 1) p.markL)
    let Dh := max 1 (min slots p.markDh)
    { p with
      markH := H, markL := L, markC := min (L - 1) p.markC, markDh := Dh, markDr := min (Dh - 1) p.markDr
      pinLimit := min p.pinLimit (slots - H) } := by
  simp only [Params.clampMarks, if_neg h, clamp, Nat.min_comm]

/-- Settles O19. -/
theorem marksClamped : Obligations.MarksClamped := by
  unfold Obligations.MarksClamped
  intro s d rest h hw n v S h16 h20 H L C Dh Dr
  obtain ⟨t, ht, hstore⟩ := setParametersWrite_stores h hw
  have hparams (id : ParamId) (hn : ParamId.ofNumber n = some id) : t.params = s.params.store S id v := (hstore id hn).1
  have hmark : n = 16 ∨ n = 17 ∨ n = 18 ∨ n = 19 ∨ n = 20 := by omega
  have hclamped : t.params = Params.clampMarks { s.params with
      markH := if n = 16 then v else s.params.markH, markL := if n = 17 then v else s.params.markL
      markC := if n = 18 then v else s.params.markC, markDh := if n = 19 then v else s.params.markDh
      markDr := if n = 20 then v else s.params.markDr } S := by
    rcases hmark with hn | hn | hn | hn | hn
    · rw [hparams .markH (by rw [hn]; rfl), hn]; rfl
    · rw [hparams .markL (by rw [hn]; rfl), hn]; rfl
    · rw [hparams .markC (by rw [hn]; rfl), hn]; rfl
    · rw [hparams .markDh (by rw [hn]; rfl), hn]; rfl
    · rw [hparams .markDr (by rw [hn]; rfl), hn]; rfl
  refine ⟨t, ht, fun hS => ?_, fun hS => ?_⟩
  · rw [hclamped, clampMarks_eq _ S hS]
  · rw [hclamped, Params.clampMarks, if_pos hS]

/-! ### LOAD RANGE -/

/-- The checks of R53 on a record, passed. -/
theorem rangeRefusal_none {i : Nat} {e : RangeEntry} {s : State} (h1 : e.first ≤ e.last) (h2 : e.last < s.map.diskSize)
    (h3 : ∀ b, rangeBelow s.ranges i = some b → b.last < e.first)
    (h4 : ∀ a, rangeAbove s.ranges i = some a → e.last < a.first) : rangeRefusal i e s = none := by
  have hbelow : ¬ (rangeBelow s.ranges i).any (fun b => e.first ≤ b.last) = true := by
    simpa [Option.any_eq_true] using h3
  have habove : ¬ (rangeAbove s.ranges i).any (fun a => a.first ≤ e.last) = true := by
    simpa [Option.any_eq_true] using h4
  rw [rangeRefusal, if_neg (by omega), if_neg (by omega), if_neg hbelow, if_neg habove]

/-- A record that ends before it begins, or beyond the disk (R53). -/
theorem rangeRefusal_badRecord {i : Nat} {e : RangeEntry} {s : State} (h : e.last < e.first ∨ s.map.diskSize ≤ e.last) :
    rangeRefusal i e s = some .badRecord := by
  unfold rangeRefusal
  split
  · rfl
  · rw [if_pos (by omega)]

/-- A record that does not lie between its neighbours (R53). -/
theorem rangeRefusal_order {i : Nat} {e : RangeEntry} {s : State} (h1 : e.first ≤ e.last) (h2 : e.last < s.map.diskSize)
    (h3 : (∃ b, rangeBelow s.ranges i = some b ∧ e.first ≤ b.last) ∨
      (∃ a, rangeAbove s.ranges i = some a ∧ a.first ≤ e.last)) : rangeRefusal i e s = some .order := by
  rw [rangeRefusal, if_neg (by omega), if_neg (by omega)]
  split
  · rfl
  next hbelow =>
    have habove : (rangeAbove s.ranges i).any (fun a => a.first ≤ e.last) = true := by
      rcases h3 with ⟨b, hb, hle⟩ | ⟨a, ha, hle⟩
      · simp [hb, hle] at hbelow
      · simp [ha, hle]
    rw [if_pos habove]

theorem placementClass_ofCode_none {n : Nat} (h : 3 < n) : PlacementClass.ofCode n = none :=
  match n, h with
  | _ + 4, _ => rfl

theorem placementClass_ofCode_some {n : Nat} (h1 : 1 ≤ n) (h3 : n ≤ 3) : ∃ k, PlacementClass.ofCode n = some k :=
  match n, h1, h3 with
  | 1, _, _ => ⟨_, rfl⟩
  | 2, _, _ => ⟨_, rfl⟩
  | 3, _, _ => ⟨_, rfl⟩

/-- Settles O20. -/
theorem loadRange : Obligations.LoadRange := by
  unfold Obligations.LoadRange
  intro s d rest h i code lo hi stored refused
  have hown : exec .loadRange s = .next (settle s (ownLoadRange d (tagOf d) (taken .loadRange d rest s))) := by
    rw [exec, execLoadRange, judged_head h]
  have hmode : (taken .loadRange d rest s).sup.mode = s.sup.mode := rfl
  have hrefused {st : Status} (hst : ownLoadRange d (tagOf d) (taken .loadRange d rest s) =
      refuse (tagOf d) st (taken .loadRange d rest s)) : refused st := by
    simp only [refused]
    rw [hown, hst, refuse_taken h]
  have hindex (hi32 : i < 32) : ¬ Config.rangeEntries ≤ headerField d 4 1 := by
    simp only [Config.rangeEntries]
    omega
  have hnonzero {k : PlacementClass} (hk : PlacementClass.ofCode code = some k) : headerField d 5 1 ≠ 0 := by
    intro h0
    have hnone : PlacementClass.ofCode 0 = some k := h0 ▸ hk
    cases hnone
  have hfails {k : PlacementClass} {st : Status} (hm : s.sup.mode ≠ .flashLost) (hi32 : i < 32)
      (hk : PlacementClass.ofCode code = some k) (hst : rangeRefusal i ⟨lo, hi, k⟩ (taken .loadRange d rest s) = some st) :
      refused st := by
    have hk' : PlacementClass.ofCode (headerField d 5 1) = some k := hk
    refine hrefused ?_
    rw [ownLoadRange, hmode, if_neg hm, if_neg (hindex hi32), if_neg (hnonzero hk), hk']
    dsimp only
    rw [hst]
  refine ⟨fun hm hi32 => ⟨fun hcode => ?empty, fun k hk h1 h2 h3 h4 => ?store⟩, fun hm => ?lost, fun hm hi31 => ?index,
    fun hm hi31 hcode => ?code, fun hm hi31 hc1 hc3 hbad => ?span, fun hm hi31 hc1 hc3 h1 h2 hbad => ?order⟩
  case empty =>
    have hcode : headerField d 5 1 = 0 := hcode
    rw [hown, ownLoadRange, hmode, if_neg hm, if_neg (hindex hi32), if_pos hcode]
    rfl
  case store =>
    have hk' : PlacementClass.ofCode (headerField d 5 1) = some k := hk
    have hnone : rangeRefusal (headerField d 4 1) ⟨payloadField d 0 6, payloadField d 8 6, k⟩
        (taken .loadRange d rest s) = none := rangeRefusal_none h1 h2 h3 h4
    rw [hown, ownLoadRange, hmode, if_neg hm, if_neg (hindex hi32), if_neg (hnonzero hk), hk']
    dsimp only
    rw [hnone]
    rfl
  case lost => exact hrefused (by rw [ownLoadRange, hmode, if_pos hm])
  case index =>
    exact hrefused (by rw [ownLoadRange, hmode, if_neg hm, if_pos (by simp only [Config.rangeEntries]; omega)])
  case code =>
    have hnone : PlacementClass.ofCode (headerField d 5 1) = none := placementClass_ofCode_none hcode
    refine hrefused ?_
    rw [ownLoadRange, hmode, if_neg hm, if_neg (hindex (by omega)), if_neg (by omega), hnone]
  case span =>
    obtain ⟨k, hk⟩ := placementClass_ofCode_some hc1 hc3
    exact hfails hm (by omega) hk (rangeRefusal_badRecord hbad)
  case order =>
    obtain ⟨k, hk⟩ := placementClass_ofCode_some hc1 hc3
    exact hfails hm (by omega) hk (rangeRefusal_order h1 h2 hbad)

/-! ### POST JOB -/

theorem bound_of_slotOf {m : ResidencyMap} {c i : Nat} (h : m.slotOf c = some i) :
    m.bound c = (m.slots[i]?).map (fun r => (i, r)) := by rw [ResidencyMap.bound, h]

theorem slotOf_of_bound {m : ResidencyMap} {c i : Nat} {r : SlotRec} (h : m.bound c = some (i, r)) :
    m.slotOf c = some i := by
  unfold ResidencyMap.bound at h
  split at h
  next j hj =>
    obtain ⟨x, _, hx⟩ := Option.map_eq_some_iff.mp h
    rw [hj, (Prod.mk.inj hx).1]
  next => cases h

theorem enqueue_commands (k : JobClass) (j : Job) (u : State) (c : List CommandRec) :
    { enqueue k j u with commands := c } = enqueue k j { u with commands := c } := by
  have hslot : claimedSlot { u with commands := c } j = claimedSlot u j := rfl
  unfold enqueue
  rw [hslot]
  cases claimedSlot u j with
  | none => rfl
  | some i => exact modifySlot_commands _ _ _ _

/-- Settles O24. -/
theorem postJob : Obligations.PostJob := by
  unfold Obligations.PostJob
  intro s d rest h c n queued refused
  have hown : exec .postJob s = .next (settle s (ownPostJob d (tagOf d) (taken .postJob d rest s))) := by
    rw [exec, execPostJob, judged_head h]
  have hmode : (taken .postJob d rest s).sup.mode = s.sup.mode := rfl
  have hrefusal (a : JobAction) : postRefusal a c (taken .postJob d rest s) = postRefusal a c s := rfl
  have hfull : queueFull s .directed = decide (8 ≤ n) := rfl
  have haccepted {a : JobAction} (hm : s.sup.mode ≠ .loading) (ha : JobAction.ofCode (headerField d 4 1) = some a)
      (hnone : postRefusal a c s = none) : exec .postJob s = .next (settle s (replied d .good (.fields [some (n + 1)])
        (enqueue .directed ⟨a, .chunk c⟩ (dequeued rest s)))) := by
    have hdepth : queueDepth (enqueue .directed ⟨a, .chunk c⟩ (taken .postJob d rest s)) .directed = n + 1 := by
      rw [queueDepth, enqueue_arbiter, PerClass.get_set_same, List.length_append]
      rfl
    have hcommands : (enqueue .directed ⟨a, .chunk c⟩ (taken .postJob d rest s)).commands =
        s.commands ++ [managementRecord (tagOf d) .postJob] := by simp [taken]
    rw [hown, ownPostJob, hmode, if_neg hm, ha]
    dsimp only
    rw [hrefusal, hnone]
    dsimp only
    rw [answerGood_of h hcommands, enqueue_commands, hdepth]
    rfl
  have hrefused {a : JobAction} {st : Status} (hm : s.sup.mode ≠ .loading)
      (ha : JobAction.ofCode (headerField d 4 1) = some a) (hst : postRefusal a c s = some st) : refused st := by
    simp only [refused]
    rw [hown, ownPostJob, hmode, if_neg hm, ha]
    dsimp only
    rw [hrefusal, hst]
    dsimp only
    rw [refuse_taken h]
  refine ⟨fun a hm ha hc hdup hn => ⟨fun hfill => ?fill, fun i hnofill hslot hpin => ?flush⟩, fun hm => ?loading,
    fun hm ha => ?action, fun a hm ha => ⟨fun hc => ?chunk, fun hc hnofill hslot => ?notResident,
      fun i r hc hevict hbound hpin => ?pinned, fun hc hslot hpin => ⟨fun hdup => ?duplicate, fun hdup hn => ?full⟩⟩⟩
  case fill =>
    have hnone : postRefusal a c s = none := by
      rw [postRefusal, if_neg (by omega), if_neg (by simp [hfill]), if_neg (by simp [hfill]), if_neg (by simp [hdup]),
        if_neg (by simpa [hfull] using hn)]
    rw [haccepted hm ha hnone]
    simp only [enqueue, claimedSlot, hfill, if_true]
    rfl
  case flush =>
    have hbound : s.map.bound c = (s.map.slots[i]?).map (fun r => (i, r)) := bound_of_slotOf hslot
    have hfree : ¬ (a = .evict ∧ (s.map.bound c).any (fun e => e.2.pinned) = true) := by
      rintro ⟨hevict, hany⟩
      rw [hbound] at hany
      cases hr : s.map.slots[i]? with
      | none => simp [hr] at hany
      | some r => simp [hr, hpin hevict r hr] at hany
    have hnone : postRefusal a c s = none := by
      rw [postRefusal, if_neg (by omega), if_neg (by simp [hslot]), if_neg hfree, if_neg (by simp [hdup]),
        if_neg (by simpa [hfull] using hn)]
    have hclaimed : claimedSlot (dequeued rest s) ⟨a, .chunk c⟩ = some i := by
      simpa [claimedSlot, hnofill] using hslot
    rw [haccepted hm ha hnone, enqueue, hclaimed]
    rfl
  case loading =>
    simp only [refused]
    rw [hown, ownPostJob, hmode, if_pos hm, refuse_taken h]
  case action =>
    simp only [refused]
    rw [hown, ownPostJob, hmode, if_neg hm, ha]
    dsimp only
    rw [refuse_taken h]
  case chunk => exact hrefused hm ha (by rw [postRefusal, if_pos hc])
  case notResident =>
    exact hrefused hm ha (by rw [postRefusal, if_neg (by omega), if_pos ⟨hnofill, by simp [hslot]⟩])
  case pinned =>
    have hslot := slotOf_of_bound hbound
    refine hrefused hm ha ?_
    rw [postRefusal, if_neg (by omega), if_neg (by simp [hslot]), if_pos ⟨hevict, by simp [hbound, hpin]⟩]
  all_goals
    have hslot : ¬ (a ≠ .fill ∧ (s.map.slotOf c).isNone = true) := by
      rintro ⟨hnofill, hnone⟩
      exact hslot hnofill (by simpa using hnone)
    have hfree : ¬ (a = .evict ∧ (s.map.bound c).any (fun e => e.2.pinned) = true) := by
      rintro ⟨hevict, hany⟩
      obtain ⟨⟨i, r⟩, hbound, hpinned⟩ := (Option.any_eq_true _ _).mp hany
      rw [hpin hevict i r hbound] at hpinned
      cases hpinned
  case duplicate =>
    exact hrefused hm ha (by rw [postRefusal, if_neg (by omega), if_neg hslot, if_neg hfree, if_pos hdup])
  case full =>
    refine hrefused hm ha ?_
    rw [postRefusal, if_neg (by omega), if_neg hslot, if_neg hfree, if_neg (by simp [hdup]),
      if_pos (by simpa [hfull] using hn)]

/-! ### PORT RESTART and ENABLE -/

theorem port_ofCode_none {n : Nat} (h : 1 < n) : Port.ofCode n = none :=
  match n, h with
  | _ + 2, _ => rfl

/-- Settles O28. -/
theorem portRestart : Obligations.PortRestart := by
  unfold Obligations.PortRestart
  intro s d rest h probing held refused
  have hown : exec .portRestart s = .next (settle s (ownPortRestart d (tagOf d) (taken .portRestart d rest s))) := by
    rw [exec, execPortRestart, judged_head h]
  have hport (p : Port) : ((taken .portRestart d rest s).port p).status = (s.port p).status := by cases p <;> rfl
  have hfaulted {p : Port} (hp : Port.ofCode (headerField d 4 1) = some p) (hs : (s.port p).status = .faulted) :
      exec .portRestart s =
        .next (settle s (placeHold (tagOf d) (.portRestart p) (beginProbe p (taken .portRestart d rest s)))) := by
    rw [hown, ownPortRestart, hp]
    dsimp only
    rw [hport, if_pos hs]
  have hother {p : Port} (hp : Port.ofCode (headerField d 4 1) = some p) (hs : (s.port p).status ≠ .faulted) :
      refused .notPermitted := by
    simp only [refused]
    rw [hown, ownPortRestart, hp]
    dsimp only
    rw [hport, if_neg hs, refuse_taken h]
  have hflash (h0 : headerField d 4 1 = 0) : Port.ofCode (headerField d 4 1) = some .flash := by rw [h0]; rfl
  have hdisk (h1 : headerField d 4 1 = 1) : Port.ofCode (headerField d 4 1) = some .disk := by rw [h1]; rfl
  refine ⟨fun h0 hs => ?_, fun h1 hs => ?_, fun h0 hs => hother (hflash h0) hs, fun h1 hs => hother (hdisk h1) hs,
    fun hbad => ?_⟩
  · rw [hfaulted (hflash h0) hs]
    rfl
  · rw [hfaulted (hdisk h1) hs]
    rfl
  · simp only [refused]
    rw [hown, ownPortRestart, port_ofCode_none hbad]
    dsimp only
    rw [refuse_taken h]

theorem restartScanner_commands (u : State) (c : List CommandRec) :
    { restartScanner u with commands := c } = restartScanner { u with commands := c } := by
  have hheld : State.held { u with commands := c } .pinScanner = u.held .pinScanner := rfl
  have hentry : pinEntryFrom { u with commands := c } 0 = pinEntryFrom u 0 := rfl
  unfold restartScanner
  rw [hheld, hentry]
  split
  · cases pinEntryFrom u 0 <;> rfl
  · rfl

/-- Settles O29. -/
theorem enableSettled : Obligations.Enable := by
  unfold Obligations.Enable
  intro s d rest h
  have hown : exec .enable s = .next (settle s (ownEnable d (tagOf d) (taken .enable d rest s))) := by
    rw [exec, execEnable, judged_head h]
  have hmode : (taken .enable d rest s).sup.mode = s.sup.mode := rfl
  have hslots : (taken .enable d rest s).map.slotCount = s.map.slotCount := rfl
  have hflash : (taken .enable d rest s).flash.status = s.flash.status := rfl
  rw [hown, ownEnable, hmode, hslots, hflash]
  refine ⟨fun hbad => ?refused, fun hload hpos => ⟨fun hready => ?online, fun hfaulted => ?flashLost,
    fun hprobing => ?waits⟩⟩
  case refused => rw [if_pos hbad, refuse_taken h]
  case online =>
    have hcommands : (enterOnline (taken .enable d rest s)).commands =
        s.commands ++ [managementRecord (tagOf d) .enable] := by simp [taken]
    rw [if_neg (by simp [hload, hpos]), hready]
    dsimp only
    rw [answerGood_of h hcommands, enterOnline, restartScanner_commands]
    rfl
  case flashLost =>
    rw [if_neg (by simp [hload, hpos]), hfaulted]
    dsimp only
    rw [answerGood_of h rfl]
    rfl
  case waits =>
    rw [if_neg (by simp [hload, hpos]), hprobing]
    rfl

end Sys2Proof.Machine
end

section
/-! O17. SET PARAMETERS: what a write of each identifier stores and does, and what a read returns. -/

namespace Sys2Proof.Machine

open Sys2Proof.Safety

/-! ### The change from ROLLOVER to SINGLE, entry by entry (R44) -/

/-- A CANDIDATE returned to TRACKED, if one comes before it. -/
def levelled (earlier : Bool) (e : HeatEntry) : HeatEntry :=
  if e.state = .candidate ∧ earlier = true then { e with state := .tracked, confirm := 0 } else e

/-- Some entry of the list is a CANDIDATE. -/
def anyCandidate (l : List (Option HeatEntry)) : Bool := l.any (fun e => e.any (fun f => f.state == .candidate))

theorem anyCandidate_cons (e : Option HeatEntry) (l : List (Option HeatEntry)) :
    anyCandidate (e :: l) = (e.any (fun f => f.state == .candidate) || anyCandidate l) := rfl

theorem keepFirstCandidate_getElem? : ∀ (l : List (Option HeatEntry)) (found : Bool) (i : Nat),
    (keepFirstCandidate l found)[i]? =
      (l[i]?).map (fun e => e.map (levelled (found || anyCandidate (l.take i))))
  | [], _, _ => by simp [keepFirstCandidate]
  | none :: l, found, 0 => rfl
  | some e :: l, found, 0 => by
    unfold keepFirstCandidate
    cases hc : e.state <;> cases found <;> simp [levelled, anyCandidate, hc]
  | none :: l, found, i + 1 => by
    rw [keepFirstCandidate, List.getElem?_cons_succ, keepFirstCandidate_getElem? l found i]
    rfl
  | some e :: l, found, i + 1 => by
    unfold keepFirstCandidate
    split
    next hc =>
      rw [List.getElem?_cons_succ, keepFirstCandidate_getElem? l true i, List.take_succ_cons, anyCandidate_cons]
      simp [hc]
    next hc =>
      have hother : (e.state == HeatState.candidate) = false := by simpa using hc
      rw [List.getElem?_cons_succ, keepFirstCandidate_getElem? l found i, List.take_succ_cons, anyCandidate_cons,
        Option.any_some, hother, Bool.false_or, List.getElem?_cons_succ]

theorem anyCandidate_take (l : List (Option HeatEntry)) (i : Nat) : anyCandidate (l.take i) =
    (List.range i).any (fun j => ((l[j]?).join).any (fun f => f.state == .candidate)) := by
  induction i with
  | zero => rfl
  | succ i ih =>
    rw [List.range_succ, List.any_append, ← ih, List.take_add_one, anyCandidate, List.any_append]
    cases hi : l[i]? <;> simp [anyCandidate, hi]

theorem keepFirstCandidate_eq_mapIdx (s : State) : keepFirstCandidate s.heat.entries false =
    s.heat.entries.mapIdx (fun i e => e.map (levelled
      ((List.range i).any (fun j => (s.heatEntry j).any (fun f => f.state == .candidate))))) := by
  refine List.ext_getElem? fun i => ?_
  rw [keepFirstCandidate_getElem?, List.getElem?_mapIdx, Bool.false_or, anyCandidate_take]
  rfl

/-! ### Identifiers and encodings (R179) -/

theorem paramId_ofNumber_isSome (m : Nat) : (ParamId.ofNumber m).isSome = true ↔
    (1 ≤ m ∧ m ≤ 10) ∨ (16 ≤ m ∧ m ≤ 22) ∨ (32 ≤ m ∧ m ≤ 37) ∨ (48 ≤ m ∧ m ≤ 54) := by
  have htable : ∀ m ≤ 54, (ParamId.ofNumber m).isSome = true ↔
      (1 ≤ m ∧ m ≤ 10) ∨ (16 ≤ m ∧ m ≤ 22) ∨ (32 ≤ m ∧ m ≤ 37) ∨ (48 ≤ m ∧ m ≤ 54) := by decide
  by_cases hm : m ≤ 54
  · exact htable m hm
  · have hnone : ParamId.ofNumber m = none :=
      match m, hm with
      | _ + 55, _ => rfl
    simp only [hnone, Option.isSome_none, Bool.false_eq_true, false_iff]
    omega

theorem priorityMode_ofCode (v : Nat) : PriorityMode.ofCode v = if v = 1 then .rotating else .fixed := by
  unfold PriorityMode.ofCode
  split
  · rfl
  next h => rw [if_neg h]

theorem pacing_ofCode (v : Nat) : Pacing.ofCode v = if v = 1 then .ack else .auto := by
  unfold Pacing.ofCode
  split
  · rfl
  next h => rw [if_neg h]

theorem writeMode_ofCode_other {v : Nat} (h0 : v ≠ 0) (h2 : v ≠ 2) : WriteMode.ofCode v = .absorbWhenStopped := by
  unfold WriteMode.ofCode
  split
  next h => exact absurd rfl h0
  next h => exact absurd rfl h2
  next => rfl

theorem storeParameter_sweepCode (v : Nat) (s : State) : storeParameter .sweepCode v s = { s with
    params := { s.params with sweepCode := min v 255 }
    heat := { s.heat with
      tick := if s.held .heat = true then s.heat.tick else some (tickPeriod (min v 255)) } } := by
  have hheld (p : Params) : State.held { s with params := p } .heat = s.held .heat := rfl
  simp only [storeParameter, parameterEffect, restartTick, hheld, Params.store]
  split <;> rfl

theorem storeParameter_watchdogCode {v : Nat} (h : min v 255 ≠ 0) (s : State) : storeParameter .watchdogCode v s =
    { s with params := { s.params with watchdogCode := min v 255 } } := if_neg h

/-- The write of the candidate mode that changes ROLLOVER to SINGLE, and any other (R44). -/
theorem storeParameter_candidateMode (v : Nat) (s : State) : storeParameter .candidateMode v s =
    if s.params.candidateMode = .rollover ∧ CandidateMode.ofCode v = .single then
      singleCandidate { s with params := { s.params with candidateMode := .ofCode v } }
    else { s with params := { s.params with candidateMode := .ofCode v } } := rfl

/-! ### The two accesses -/

section

variable {s : State} {d : Descriptor} {rest : List Descriptor}

theorem exec_setParametersRead_head (h : HeadIs .setParameters d rest s) (hr : headerField d 6 1 ≠ 1) :
    exec .setParametersRead s = .next (ownParameterRead d (tagOf d) (taken .setParameters d rest s)) := by
  rw [exec, execSetParametersRead, plain_head h (by simpa [isWriteAccess] using hr)]

theorem setParametersWrite_named {id : ParamId} {u : State} {stored : Nat} (h : HeadIs .setParameters d rest s)
    (hw : headerField d 6 1 = 1) (hid : ParamId.ofNumber (headerField d 4 2) = some id)
    (hu : storeParameter id (headerField d 8 4) (dequeued rest s) = u)
    (hstored : (s.params.store s.map.slotCount id (headerField d 8 4)).read id = stored) :
    exec .setParametersWrite s = .next (settle s (replied d .good (.fields [some stored]) u)) := by
  rw [exec_setParametersWrite_head h hw, ownParameterWrite_named h hid, hu, hstored]

end

/-- Settles O17. -/
theorem setParameters : Obligations.SetParameters := by
  unfold Obligations.SetParameters
  intro s d rest h n v p wrote wrotePacing
  refine ⟨fun id hid => ⟨fun hw => ?store, fun hr => ?read⟩, fun hid => ⟨fun hw => ?badWrite, fun hr => ?badRead⟩,
    paramId_ofNumber_isSome, fun hw => ?_⟩
  case store => exact setParametersWrite_named h hw hid rfl rfl
  case read =>
    rw [exec_setParametersRead_head h hr, ownParameterRead, namedParameter, hid]
    dsimp only
    rw [answerGood_of h rfl]
    rfl
  case badWrite =>
    rw [exec_setParametersWrite_head h hw, ownParameterWrite, namedParameter, hid]
    dsimp only
    rw [refuse_taken h]
  case badRead =>
    rw [exec_setParametersRead_head h hr, ownParameterRead, namedParameter, hid]
    dsimp only
    rw [refuse_taken h]
  have hwrote (id : ParamId) (hid : ParamId.ofNumber n = some id) :
      wrote (storeParameter id v (dequeued rest s)) ((p.store s.map.slotCount id v).read id) :=
    setParametersWrite_named h hw hid rfl rfl
  have hpacing (k : JobClass) (hid : ParamId.ofNumber n = some (.pacing k)) : wrotePacing k := by
    have hstored : (p.store s.map.slotCount (.pacing k) v).read (.pacing k) = if v = 1 then 1 else 0 := by
      simp only [Params.store, Params.read, PerClass.get_set_same, pacing_ofCode]
      split <;> rfl
    refine setParametersWrite_named h hw hid ?_ hstored
    rw [← pacing_ofCode]
    rfl
  have hid {m : Nat} {id : ParamId} (hn : n = m) (hm : ParamId.ofNumber m = some id) : ParamId.ofNumber n = some id := by
    rw [hn, hm]
  refine ⟨fun hn => hwrote .pinLimit (hid hn rfl), fun hn => hwrote .idleFlushDelay (hid hn rfl),
    fun hn => ⟨fun hv => ?around, fun hv => ?always, fun hv0 hv2 => ?whenStopped⟩,
    fun hn => hwrote .flashLimit (hid hn rfl), fun hn => hwrote .diskLimit (hid hn rfl),
    fun hn => hwrote .startLimit (hid hn rfl), fun hn => hwrote .retryDelay (hid hn rfl),
    fun hn => hwrote .idleDelay (hid hn rfl), fun hn => ?priority, fun hn => hpacing .flushUrgent (hid hn rfl),
    fun hn => hpacing .pinFill (hid hn rfl), fun hn => hpacing .directed (hid hn rfl),
    fun hn => hpacing .hotFill (hid hn rfl), fun hn => hpacing .flushIdle (hid hn rfl), fun hn hv => ?watchdog,
    fun hn hv => ?watchdogOff, fun hn => ?sweep, fun hn => ?candidate⟩
  case around =>
    have hw := hwrote .writeMode (hid hn rfl)
    rw [hv] at hw
    exact hw
  case always =>
    have hw := hwrote .writeMode (hid hn rfl)
    rw [hv] at hw
    exact hw
  case whenStopped =>
    have hmode : WriteMode.ofCode v = .absorbWhenStopped := writeMode_ofCode_other hv0 hv2
    refine setParametersWrite_named (id := .writeMode) h hw (hid hn rfl) ?_ ?_
    · rw [← hmode]
      rfl
    · simp only [Params.store, Params.read]
      rw [hmode]
      rfl
  case priority =>
    refine setParametersWrite_named (id := .priority) h hw (hid hn rfl) ?_ ?_
    · rw [← priorityMode_ofCode]
      rfl
    · simp only [Params.store, Params.read, priorityMode_ofCode]
      split <;> rfl
  case watchdog =>
    refine setParametersWrite_named (id := .watchdogCode) h hw (hid hn rfl) ?_ rfl
    have hpos : min v 255 ≠ 0 := by omega
    exact storeParameter_watchdogCode hpos _
  case watchdogOff =>
    have hw := hwrote .watchdogCode (hid hn rfl)
    rw [hv] at hw
    exact hw
  case sweep =>
    intro c period tick
    refine setParametersWrite_named (id := .sweepCode) h hw (hid hn rfl) ?_ rfl
    rw [storeParameter_sweepCode]
    rfl
  case candidate =>
    intro level
    refine ⟨fun hv => ?rollover, fun hv hsingle => ?single, fun hv hroll => ?change⟩
    case rollover =>
      have hmode : CandidateMode.ofCode (headerField d 8 4) = .rollover := by rw [candidateMode_ofCode, if_neg hv]
      refine setParametersWrite_named (id := .candidateMode) h hw (hid hn rfl) ?_ ?_
      · rw [storeParameter_candidateMode, if_neg (fun hc => absurd (hmode.symm.trans hc.2) (by decide)), hmode]
        rfl
      · simp only [Params.store, Params.read]
        rw [hmode]
        rfl
    case single =>
      have hsingle : (dequeued rest s).params.candidateMode = .single := hsingle
      have hmode : CandidateMode.ofCode (headerField d 8 4) = .single := by rw [show headerField d 8 4 = 0 from hv]; rfl
      refine setParametersWrite_named (id := .candidateMode) h hw (hid hn rfl) ?_ ?_
      · rw [storeParameter_candidateMode, if_neg (fun hc => absurd (hsingle.symm.trans hc.1) (by decide)), hmode]
        rfl
      · simp only [Params.store, Params.read]
        rw [hmode]
        rfl
    case change =>
      have hroll : (dequeued rest s).params.candidateMode = .rollover := hroll
      have hmode : CandidateMode.ofCode (headerField d 8 4) = .single := by rw [show headerField d 8 4 = 0 from hv]; rfl
      have hlevel : (fun i (e : Option HeatEntry) => e.map (level i)) = fun i e => e.map (levelled
          ((List.range i).any (fun j => (s.heatEntry j).any (fun f => f.state == .candidate)))) := rfl
      refine setParametersWrite_named (id := .candidateMode) h hw (hid hn rfl) ?_ ?_
      · rw [storeParameter_candidateMode, if_pos ⟨hroll, hmode⟩, hmode, hlevel, ← keepFirstCandidate_eq_mapIdx]
        rfl
      · simp only [Params.store, Params.read]
        rw [hmode]
        rfl

end Sys2Proof.Machine
end

section
/-! O23, O43, O47, O51, O55. The Arbiter's claims and the class a grant serves, the messages that the ports discard, a HALT,
and the timers that only start something. -/

namespace Sys2Proof.Machine

open Sys2Proof.Safety

/-! ### Claims (R114) -/

theorem mem_allClasses (k : JobClass) : k ∈ allClasses := by cases k <;> decide

theorem mem_allJobs {s : State} {j : Job} : j ∈ allJobs s ↔
    ∃ k, j ∈ s.arbiter.queues.get k ∨ (s.arbiter.service.get k).entry = some j := by
  simp only [allJobs, List.mem_flatMap, mem_allClasses, true_and, List.mem_append, Option.mem_toList]

theorem chunkJobNames_iff {s : State} {c : Nat} : chunkJobNames s c = true ↔
    ∃ (k : JobClass) (j : Job), (j ∈ s.arbiter.queues.get k ∨ (s.arbiter.service.get k).entry = some j) ∧
      j.action = .fill ∧ j.target = .chunk c := by
  simp only [chunkJobNames, List.any_eq_true, mem_allJobs, Bool.and_eq_true, beq_iff_eq]
  constructor
  · rintro ⟨j, ⟨k, hj⟩, hfill, hc⟩
    exact ⟨k, j, hj, hfill, hc⟩
  · rintro ⟨k, j, hj, hfill, hc⟩
    exact ⟨j, ⟨k, hj⟩, hfill, hc⟩

theorem boundSlotQueued_iff {s : State} {c : Nat} : boundSlotQueued s c = true ↔
    ∃ i r, s.map.bound c = some (i, r) ∧ r.queued = true := by
  simp only [boundSlotQueued, Option.any_eq_true, Prod.exists]

/-- Settles O23. -/
theorem duplicatePostings : Obligations.DuplicatePostings := by
  unfold Obligations.DuplicatePostings
  intro s chunkJob chunkClaimed slotClaimed
  have hchunk (c : Nat) : duplicateFill s c = true ↔ chunkClaimed c := by
    simp only [duplicateFill, Bool.or_eq_true, chunkJobNames_iff, boundSlotQueued_iff, chunkClaimed, chunkJob]
  have hslot (i : Nat) : duplicateFlush s i = true ↔ slotClaimed i := by
    simp only [duplicateFlush, Bool.or_eq_true, Option.any_eq_true, chunkJobNames_iff, slotClaimed, chunkJob]
  refine ⟨fun c => ?_, hslot, fun a c ha => ?_⟩
  · simp only [isDuplicate, bne_self_eq_false, Bool.false_and, Bool.or_false, hchunk]
  · simp only [isDuplicate, Bool.or_eq_true, Bool.and_eq_true, bne_iff_ne, ne_eq, ha, not_false_eq_true, true_and,
      Option.any_eq_true, hchunk, hslot]

/-! ### The class that a grant serves (R117, R120, R121) -/

/-- In a list that rises in `r`, the first element with `p` is the one with `p` of least `r`. -/
theorem find?_eq_some_iff_least {α : Type} {r : α → Nat} {p : α → Bool} {k : α} : ∀ {l : List α},
    l.Pairwise (fun x y => r x < r y) →
    (l.find? p = some k ↔ k ∈ l ∧ p k = true ∧ ∀ x ∈ l, p x = true → r k ≤ r x)
  | [], _ => by simp
  | a :: l, h => by
    obtain ⟨hfirst, hrest⟩ := List.pairwise_cons.mp h
    rw [List.find?_cons]
    cases hp : p a with
    | true =>
      constructor
      · intro heq
        cases heq
        refine ⟨List.mem_cons_self, hp, fun x hx _ => ?_⟩
        rcases List.mem_cons.mp hx with rfl | hx
        · exact Nat.le_refl _
        · exact Nat.le_of_lt (hfirst x hx)
      · rintro ⟨hk, _, hleast⟩
        rcases List.mem_cons.mp hk with rfl | hk
        · rfl
        · exact absurd (hleast a List.mem_cons_self hp) (Nat.not_le_of_lt (hfirst k hk))
    | false =>
      have ih := find?_eq_some_iff_least (r := r) (p := p) (k := k) hrest
      constructor
      · intro heq
        obtain ⟨hk, hpk, hleast⟩ := ih.mp heq
        refine ⟨List.mem_cons_of_mem _ hk, hpk, fun x hx hpx => ?_⟩
        rcases List.mem_cons.mp hx with rfl | hx
        · rw [hp] at hpx
          cases hpx
        · exact hleast x hx hpx
      · rintro ⟨hk, hpk, hleast⟩
        rcases List.mem_cons.mp hk with rfl | hk
        · rw [hp] at hpk
          cases hpk
        · exact ih.mpr ⟨hk, hpk, fun x hx => hleast x (List.mem_cons_of_mem _ hx)⟩

theorem priorityOrder_pairwise (lowest : JobClass) :
    (priorityOrder lowest).Pairwise (fun x y => rank lowest x < rank lowest y) := by cases lowest <;> decide

theorem mem_priorityOrder (lowest k : JobClass) : k ∈ priorityOrder lowest := by cases lowest <;> cases k <;> decide

theorem find_priorityOrder {lowest k : JobClass} {p : JobClass → Bool} : (priorityOrder lowest).find? p = some k ↔
    p k = true ∧ ∀ x, p x = true → rank lowest k ≤ rank lowest x := by
  simp only [find?_eq_some_iff_least (priorityOrder_pairwise lowest), mem_priorityOrder, true_and, forall_const]

theorem occupiedContexts_lt {s : State} : occupiedContexts s < 2 ↔ s.mover.ctx0 = none ∨ s.mover.ctx1 = none := by
  unfold occupiedContexts
  cases s.mover.ctx0 <;> cases s.mover.ctx1 <;> simp

theorem isNesting_false {v : Service} : v.isNesting = false ↔
    ∀ (j : Job) (c : CtxId), v ≠ .job .suspending j c ∧ v ≠ .job .suspended j c := by
  cases v with
  | none => simp [Service.isNesting]
  | awaitAck => simp [Service.isNesting]
  | job st j c => cases st <;> simp [Service.isNesting]

theorem nestingUnderway_false {s : State} : nestingUnderway s = false ↔
    ∀ (x : JobClass) (j : Job) (c : CtxId), s.arbiter.service.get x ≠ .job .suspending j c ∧
      s.arbiter.service.get x ≠ .job .suspended j c := by
  simp only [nestingUnderway, List.any_eq_false, mem_allClasses, true_imp_iff, Bool.not_eq_true, isNesting_false]

theorem outranksService_iff {s : State} {k : JobClass} : outranksService s k = true ↔
    ∀ x, s.arbiter.service.get x ≠ .none → rank s.arbiter.lowest k < rank s.arbiter.lowest x := by
  simp only [outranksService, List.all_eq_true, mem_allClasses, true_imp_iff, Bool.or_eq_true, beq_iff_eq,
    decide_eq_true_eq, Classical.or_iff_not_imp_left, ne_eq]

theorem fillReserveKept_iff {s : State} {k : JobClass} : fillReserveKept s k = true ↔
    ∀ j, (s.arbiter.queues.get k).head? = some j → j.action = .fill → s.params.markC < s.map.freeCount := by
  unfold fillReserveKept
  cases (s.arbiter.queues.get k).head? with
  | none => simp
  | some j => simp [Classical.or_iff_not_imp_left]

theorem needsRunning_iff {k : JobClass} : k.needsRunning = true ↔ k = .pinFill ∨ k = .hotFill ∨ k = .flushIdle := by
  cases k <;> simp [JobClass.needsRunning]

theorem eligible_iff {s : State} {k : JobClass} : eligible s k = true ↔
    s.arbiter.queues.get k ≠ [] ∧ s.arbiter.mask.getLsbD k.number = false ∧ s.arbiter.service.get k = .none ∧
      (k = .pinFill ∨ k = .hotFill ∨ k = .flushIdle → s.spindle.state = .running) ∧
      (∀ j, (s.arbiter.queues.get k).head? = some j → j.action = .fill → s.params.markC < s.map.freeCount) := by
  have hrunning : (!k.needsRunning || s.spindle.state == .running) = true ↔
      (k = .pinFill ∨ k = .hotFill ∨ k = .flushIdle → s.spindle.state = .running) := by
    rw [← needsRunning_iff, Bool.or_eq_true, Bool.not_eq_true', beq_iff_eq, ← Bool.not_eq_true]
    exact Decidable.imp_iff_not_or.symm
  simp only [eligible, Bool.and_eq_true, hrunning, fillReserveKept_iff, Bool.not_eq_true', List.isEmpty_eq_false_iff,
    beq_iff_eq, ne_eq, and_assoc]

theorem nextGrant_eq_some {s : State} {k : JobClass} : nextGrant s = some k ↔
    (s.sup.mode = .online ∧ s.held .mover = false ∧ occupiedContexts s < 2 ∧ nestingUnderway s = false) ∧
      (eligible s k = true ∧ ∀ x, eligible s x = true → rank s.arbiter.lowest k ≤ rank s.arbiter.lowest x) ∧
      outranksService s k = true := by
  unfold nextGrant
  split
  next hopen =>
    rw [← find_priorityOrder]
    cases hfind : (priorityOrder s.arbiter.lowest).find? (eligible s) with
    | none => simp
    | some x =>
      simp only [hopen, true_and, and_self, Option.some.injEq]
      split
      next hout =>
        exact ⟨fun hk => ⟨Option.some.inj hk, Option.some.inj hk ▸ hout⟩, fun hk => congrArg some hk.1⟩
      next hnot =>
        refine ⟨fun hk => absurd hk (by simp), fun hk => ?_⟩
        obtain ⟨rfl, hout⟩ := hk
        exact absurd hout hnot
  next hclosed => exact ⟨fun hk => absurd hk (by simp), fun hk => absurd hk.1 hclosed⟩

/-- Settles O43. -/
theorem grantClass : Obligations.GrantClass := by
  unfold Obligations.GrantClass
  intro s
  refine ⟨fun k => ?_, fun k => eligible_iff, fun hnone => ?_⟩
  · rw [nextGrant_eq_some, occupiedContexts_lt, nestingUnderway_false, outranksService_iff]
    simp only [and_assoc]
  · rw [exec, execGrant, hnone]
    rfl

/-! ### What the ports discard -/

/-- The piece found with an id is listed and has it. -/
theorem findPiece_some {id : Nat} {x : Piece} {behind : List Piece} : ∀ {l : List Piece},
    findPiece id l = some (x, behind) → x ∈ l ∧ x.id = id
  | [], h => by cases h
  | y :: l, h => by
    unfold findPiece at h
    split at h
    next hy =>
      cases h
      exact ⟨List.mem_cons_self, hy⟩
    next =>
      obtain ⟨hx, hid⟩ := findPiece_some h
      exact ⟨List.mem_cons_of_mem _ hx, hid⟩

theorem findPiece_none {id : Nat} : ∀ {l : List Piece}, (∀ x ∈ l, x.id ≠ id) → findPiece id l = none
  | [], _ => rfl
  | y :: l, h => by
    rw [findPiece, if_neg (h y List.mem_cons_self)]
    exact findPiece_none fun x hx => h x (List.mem_cons_of_mem _ hx)

/-- No status is named above 3 (R90). -/
theorem completionStatus_none {x : Piece} {status : Byte} (offset : Byte) (h : 3 < status.toNat) :
    completionStatus x status offset = none := by
  unfold completionStatus
  split
  next he => omega
  next he => omega
  next he => omega
  next he => omega
  next => rfl

/-- Settles O47. -/
theorem discardedMessages : Obligations.DiscardedMessages := by
  unfold Obligations.DiscardedMessages
  intro s p id status offset m u
  have hexec : exec (.pieceCompletion p id status offset) s = .next (event s (pieceCompletion p id status offset s)) := rfl
  have hnone (h : pieceCompletion p id status offset s = none) :
      exec (.pieceCompletion p id status offset) s = .next s := by rw [hexec, h, event_none]
  refine ⟨rfl, rfl, fun hbad => hnone ?status, fun hwait hout => hnone ?unlisted, fun hready hstatus habsent hheld => ?withheld⟩
  case status =>
    unfold pieceCompletion
    split
    next => rfl
    next hready =>
      have hbig : 3 < status.toNat := hbad.resolve_left hready
      split
      · split
        · rfl
        · rw [completionStatus_none offset hbig, Option.map_none]
      · rw [if_neg (by omega)]
  case unlisted =>
    unfold pieceCompletion
    split
    · rfl
    split
    next x behind hfind =>
      obtain ⟨hx, hid⟩ := findPiece_some hfind
      rw [if_pos (hwait x hx hid)]
    next => rw [if_neg (by simp [u] at hout; simp [hout])]
  case withheld =>
    have hfind : findPiece id.toNat (s.port p).list = none := findPiece_none habsent
    have hcontains : (s.port p).withheld.contains id.toNat = true := by simpa using hheld
    rw [hexec, pieceCompletion, if_neg (by simpa using hready), hfind]
    dsimp only
    rw [if_pos ⟨hcontains, hstatus⟩, event_some]

/-! ### A HALT -/

/-- No descriptor holds the head: a spindle that becomes STOPPED only ends the pending of a SPIN DOWN (R109). -/
theorem noteStopped_free {s : State} (ph : SpinDownPhase) (h : s.link.headHold = none) :
    noteStopped ph s = { s with spindle := { s.spindle with pendingSpinDown := false } } := by
  simp only [noteStopped, h]

theorem forceWhere_nil {p : Port} {s : State} (f : Piece → Bool) (h : (s.port p).list = []) : forceWhere p f s = s := by
  simp only [forceWhere, h, List.filter_nil, List.map_nil, List.foldl_nil]

/-- A failed start with no disk piece listed and no descriptor at the head (R103). -/
theorem failStart_idle {s : State} (hlist : s.disk.list = []) (hfree : s.link.headHold = none) : failStart s = { s with
    sup := (setFlag .spinFail s).sup
    spindle := { s.spindle with
      state := .stopped, startTimer := none, startFailed := true, restartPending := false
      retryTimer := some (s.params.retryDelay * 1000), pendingSpinDown := false } } := by
  have hmarked : ((markStartFailed s).port .disk).list = [] := hlist
  rw [failStart, forceWhere_nil _ hmarked, noteStopped_free]
  · rfl
  · exact hfree

/-- Settles O51. -/
theorem haltSettled : Obligations.Halt := by
  unfold Obligations.Halt
  intro s
  have hexec : exec .halt s = .next (event s (haltDisk s)) := rfl
  refine ⟨fun hnot => ?_, fun hready hfree => ⟨fun hstopped => ?_, fun hspins => ?_, fun hstarting hlist => ?_⟩⟩
  · rw [hexec, haltDisk, if_pos hnot, event_none]
  · rw [hexec, haltDisk, if_neg (by simp [hready]), hstopped]
    rfl
  · rw [hexec, haltDisk, if_neg (by simp [hready])]
    rcases hspins with hs | hs
    · rw [hs]
      dsimp only
      rw [noteStopped_free _ (by exact hfree)]
      rfl
    · rw [hs]
      dsimp only
      rw [noteStopped_free _ (by exact hfree)]
      rfl
  · rw [hexec, haltDisk, if_neg (by simp [hready]), hstarting]
    dsimp only
    have hdisk : ({ s.disk with list := [] } : PortUnit) = s.disk := by rw [← hlist]
    rw [hlist, List.map_nil, hdisk, failStart_idle (by exact hlist) (by exact hfree)]
    rfl

/-! ### Timers that start something -/

/-- Settles O55. -/
theorem timerExpiries : Obligations.TimerExpiries := by
  unfold Obligations.TimerExpiries
  intro s stopped
  have hretry : exec .retryDelayExpiry s = .next (event s (retryDelayExpiry s)) := rfl
  have hidle : exec .idleTimerExpiry s = .next (event s (idleTimerExpiry s)) := rfl
  have hflush : exec .idleFlushExpiry s = .next (event s (idleFlushExpiry s)) := rfl
  refine ⟨fun hnone => ?_, fun hsome => ?_, fun hnone => ?_, fun hsome hrun => ?_, fun hnone => ?_,
    fun hsome => ⟨fun hbusy => ?_, fun hqueue hdirty hoff => ?_⟩⟩
  · rw [hretry, retryDelayExpiry, if_neg (by simp [hnone]), event_none]
  · rw [hretry, retryDelayExpiry, if_pos (by rwa [Option.isSome_iff_ne_none]), event_some]
  · rw [hidle, idleTimerExpiry, if_neg (by simp [hnone]), event_none]
  · rw [hidle, idleTimerExpiry, if_pos ⟨by rwa [Option.isSome_iff_ne_none], hrun⟩, event_some]
    rfl
  · rw [hflush, idleFlushExpiry, if_pos (by simp [hnone]), event_none]
  · have hno : ¬ (queueDepth s .flushIdle = 0 ∧ s.map.dirtyCount ≠ 0) := by
      simp only [queueDepth, PerClass.get, List.length_eq_zero_iff]
      rcases hbusy with hb | hb
      · exact fun hc => hb hc.1
      · exact fun hc => hc.2 hb
    rw [hflush, idleFlushExpiry, if_neg (by simpa using hsome), if_neg hno, event_some]
  · have hyes : queueDepth s .flushIdle = 0 ∧ s.map.dirtyCount ≠ 0 :=
      ⟨by simp [queueDepth, PerClass.get, hqueue], hdirty⟩
    have hchanged : ({ s.reclaimer.duties with idle := true } : Duties) ≠ s.reclaimer.duties := fun he => by
      have hidle : true = s.reclaimer.duties.idle := congrArg Duties.idle he
      rw [hoff] at hidle
      cases hidle
    have hmoves : handMayMove { stopped with reclaimer := { stopped.reclaimer with
        duties := { s.reclaimer.duties with idle := true } } } = true ↔
          s.sup.mode = .online ∧ s.held .reclaimer = false := by
      simp only [handMayMove, Duties.any, Bool.or_true, Bool.true_and, Bool.and_eq_true, beq_iff_eq, Bool.not_eq_true']
      rfl
    rw [hflush, idleFlushExpiry, if_neg (by simpa using hsome), if_pos hyes, event_some, setDuties, if_neg hchanged,
      releaseHand]
    simp only [← hmoves]
    by_cases hwaits : s.reclaimer.condition = .waiting ∨ s.reclaimer.condition = .paused
    · rw [if_pos hwaits, if_pos hwaits]
    · rw [if_neg hwaits, if_neg hwaits]

end Sys2Proof.Machine
end

section
/-! O30, O31. What the end of an event leaves as it is, and what it judges on the counts and for the Reclaimer: each of
`settle`'s steps said once, as an equation on the fields that it writes. -/

namespace Sys2Proof.Machine

open Sys2Proof.Safety

/-! ### Flags and detectors (R155, R168) -/

theorem setFlag_flags (f : EventFlag) (s : State) (n : Nat) :
    (setFlag f s).sup.flags.getLsbD n = (s.sup.flags.getLsbD n || decide (n = f.bit)) := by
  have hbit : f.bit < 12 := by cases f <;> decide
  have hset : f.toSet.getLsbD n = decide (n = f.bit) := by
    rw [EventFlag.toSet, BitVec.getLsbD_twoPow]
    by_cases hn : n = f.bit
    · simp [hn, hbit]
    · simp [hn, Ne.symm hn]
  rw [← hset]
  simp [setFlag, Supervision.drive]

/-- A detector whose current side changes and leaves the reported side sets its flag (R155). -/
def crosses (side current reported : Bool) : Bool := side != current && side != reported

theorem judgeFree_flags (s : State) (n : Nat) : (judgeFree s).sup.flags.getLsbD n =
    (s.sup.flags.getLsbD n || (decide (n = 0) && crosses (freeSide s) s.sup.freeBelow s.sup.freeReported)) := by
  unfold judgeFree crosses
  split
  next h => simp [h]
  next h =>
    dsimp only
    split
    next h' => simp [h']
    next h' =>
      have hcross : (freeSide s != s.sup.freeBelow && freeSide s != s.sup.freeReported) = true := by simp [h, h']
      rw [setFlag_flags, hcross, Bool.and_true]
      rfl

theorem judgeDirty_flags (s : State) (n : Nat) : (judgeDirty s).sup.flags.getLsbD n =
    (s.sup.flags.getLsbD n || (decide (n = 1) && crosses (dirtySide s) s.sup.dirtyAbove s.sup.dirtyReported)) := by
  unfold judgeDirty crosses
  split
  next h => simp [h]
  next h =>
    dsimp only
    split
    next h' => simp [h']
    next h' =>
      have hcross : (dirtySide s != s.sup.dirtyAbove && dirtySide s != s.sup.dirtyReported) = true := by simp [h, h']
      rw [setFlag_flags, hcross, Bool.and_true]
      rfl

theorem judgeFree_sides (s : State) : (judgeFree s).sup.freeBelow = freeSide s ∧
    (judgeFree s).sup.freeReported = s.sup.freeReported ∧ (judgeFree s).sup.dirtyAbove = s.sup.dirtyAbove ∧
    (judgeFree s).sup.dirtyReported = s.sup.dirtyReported := by
  unfold judgeFree
  split
  next h => exact ⟨h.symm, rfl, rfl, rfl⟩
  next => dsimp only; split <;> exact ⟨rfl, rfl, rfl, rfl⟩

theorem judgeDirty_sides (s : State) : (judgeDirty s).sup.dirtyAbove = dirtySide s ∧
    (judgeDirty s).sup.dirtyReported = s.sup.dirtyReported ∧ (judgeDirty s).sup.freeBelow = s.sup.freeBelow ∧
    (judgeDirty s).sup.freeReported = s.sup.freeReported := by
  unfold judgeDirty
  split
  next h => exact ⟨h.symm, rfl, rfl, rfl⟩
  next => dsimp only; split <;> exact ⟨rfl, rfl, rfl, rfl⟩

/-! ### The stall of the Pin Scanner (R61) -/

/-- A stall that goes on with the queue below its capacity and the pin-limit condition holding sets PIN_OVER, once. -/
def raisesPinOver (s : State) : Bool :=
  match s.scanner with
  | .scanning _ _ (.stalled raised) => !pinQueueFull s && pinLimitHolds s && !raised
  | _ => false

theorem judgeStall_idle {s : State} (h : s.stalls = false) : judgeStall s = s := by
  unfold judgeStall
  split
  next e c raised hs =>
    rw [State.stalls, hs] at h
    cases h
  next => rfl

theorem judgeStall_stalled {s : State} {e c : Nat} {raised : Bool} (h : s.scanner = .scanning e c (.stalled raised)) :
    judgeStall s = if pinQueueFull s then s
      else if pinLimitHolds s then
        if raised then s else setFlag .pinOver { s with scanner := .scanning e c (.stalled true) }
      else { s with scanner := .scanning e c .none } := by
  simp only [judgeStall, h]

/-- A scanner without a stall is left alone. -/
theorem stallSeen_idle {s t : State} (h : s.stalls = false) : stallSeen s.scanner t = s.scanner := by
  unfold stallSeen
  split
  next e c raised hs =>
    rw [State.stalls, hs] at h
    cases h
  next => rfl

theorem raisesPinOver_idle {s : State} (h : s.stalls = false) : raisesPinOver s = false := by
  unfold raisesPinOver
  split
  next e c raised hs =>
    rw [State.stalls, hs] at h
    cases h
  next => rfl

theorem stalls_iff {s : State} : s.stalls = true ↔ ∃ e c raised, s.scanner = .scanning e c (.stalled raised) := by
  unfold State.stalls
  split
  next e c raised hs => simp [hs]
  next hno => simpa using hno

theorem judgeStall_scanner (s : State) : (judgeStall s).scanner = stallSeen s.scanner s := by
  cases hst : s.stalls with
  | false => rw [judgeStall_idle hst, stallSeen_idle hst]
  | true =>
    obtain ⟨e, c, raised, hs⟩ := stalls_iff.mp hst
    have hfull : pinQueueFull s = true ↔ 16 ≤ s.arbiter.queues.pinFill.length := by
      rw [pinQueueFull, decide_eq_true_eq]
      rfl
    have hlimit : pinLimitHolds s = true ↔ s.params.pinLimit ≤ s.map.pinnedCount + s.arbiter.queues.pinFill.length := by
      rw [pinLimitHolds, decide_eq_true_eq]
      rfl
    rw [judgeStall_stalled hs, hs]
    simp only [stallSeen, ← hfull, ← hlimit]
    split
    · exact hs
    split
    · cases raised with
      | true => exact hs
      | false => rfl
    · rfl

theorem judgeStall_flags (s : State) (n : Nat) : (judgeStall s).sup.flags.getLsbD n =
    (s.sup.flags.getLsbD n || (decide (n = 7) && raisesPinOver s)) := by
  cases hst : s.stalls with
  | false => rw [judgeStall_idle hst, raisesPinOver_idle hst, Bool.and_false, Bool.or_false]
  | true =>
    obtain ⟨e, c, raised, hs⟩ := stalls_iff.mp hst
    rw [judgeStall_stalled hs, raisesPinOver, hs]
    split
    next hfull => simp [hfull]
    split
    next hfull hlimit =>
      cases raised with
      | true => simp
      | false =>
        have hbit : decide (n = EventFlag.pinOver.bit) = decide (n = 7) := rfl
        rw [if_neg Bool.false_ne_true, setFlag_flags, hbit]
        simp [hfull, hlimit]
    next hfull hlimit => simp [hlimit]

theorem judgeStall_sides (s : State) : (judgeStall s).sup.freeBelow = s.sup.freeBelow ∧
    (judgeStall s).sup.freeReported = s.sup.freeReported ∧ (judgeStall s).sup.dirtyAbove = s.sup.dirtyAbove ∧
    (judgeStall s).sup.dirtyReported = s.sup.dirtyReported := by
  unfold judgeStall
  (repeat' split) <;> exact ⟨rfl, rfl, rfl, rfl⟩

/-! ### Needs, and what a START or a STOP writes (R100, R101, R109) -/

/-- The state after the pending SPIN DOWN and the standing needs have been judged. -/
def needed (s : State) : State := judgeNeeds (judgeSpinDown s)

@[simp] theorem needed_frame (s : State) :
    (needed s).link = s.link ∧ (needed s).commands = s.commands ∧ (needed s).map = s.map ∧
    (needed s).scanner = s.scanner ∧ (needed s).arbiter = s.arbiter ∧ (needed s).mover = s.mover ∧
    (needed s).reclaimer = s.reclaimer ∧ (needed s).sup = s.sup ∧ (needed s).params = s.params := by
  simp [needed]

theorem actOnNeed_writes (s : State) :
    (actOnNeed s).disk = { s.disk with sent := (actOnNeed s).disk.sent } ∧
    (actOnNeed s).spindle.startFailed = s.spindle.startFailed ∧
    (actOnNeed s).spindle.retryTimer = s.spindle.retryTimer := by
  unfold actOnNeed
  (repeat' split) <;> exact ⟨rfl, rfl, rfl⟩

theorem judgeNeeds_writes (s : State) :
    (judgeNeeds s).disk = { s.disk with sent := (judgeNeeds s).disk.sent } ∧
    (judgeNeeds s).spindle.startFailed = s.spindle.startFailed ∧
    (judgeNeeds s).spindle.retryTimer = s.spindle.retryTimer := by
  unfold judgeNeeds
  split
  · exact actOnNeed_writes s
  · exact ⟨rfl, rfl, rfl⟩

theorem judgeSpinDown_writes (s : State) :
    (judgeSpinDown s).disk = { s.disk with sent := (judgeSpinDown s).disk.sent } ∧
    (judgeSpinDown s).spindle.startFailed = s.spindle.startFailed ∧
    (judgeSpinDown s).spindle.retryTimer = s.spindle.retryTimer := by
  unfold judgeSpinDown
  split <;> exact ⟨rfl, rfl, rfl⟩

/-- START and STOP write only the spindle's state, timers and marks, and the messages sent. -/
theorem needed_writes (s : State) : (needed s).disk = { s.disk with sent := (needed s).disk.sent } ∧
    (needed s).spindle.startFailed = s.spindle.startFailed ∧ (needed s).spindle.retryTimer = s.spindle.retryTimer := by
  obtain ⟨hdisk, hfailed, hretry⟩ := judgeSpinDown_writes s
  obtain ⟨hdisk', hfailed', hretry'⟩ := judgeNeeds_writes (judgeSpinDown s)
  refine ⟨?_, hfailed'.trans hfailed, hretry'.trans hretry⟩
  rw [needed, hdisk', hdisk]

/-! ### The end of an event, field by field -/

/-- What `settle` has judged before the ends of SPIN UP and SPIN DOWN. -/
def judged (b s : State) : State :=
  judgeWatchdogs (judgeStall (judgeIdleFlush b (judgeIdleTimer (judgeCrossings (judgeHand (judgeDuties (needed s)))))))

theorem settle_eq (b s : State) : settle b s = judgeSpin (judged b s) := rfl

theorem settle_disk_writes (b s : State) : (settle b s).disk = { s.disk with sent := (settle b s).disk.sent } := by
  rw [settle_disk_eq]
  exact (needed_writes s).1

theorem settle_spindle_writes (b s : State) : (settle b s).spindle.startFailed = s.spindle.startFailed ∧
    (settle b s).spindle.retryTimer = s.spindle.retryTimer := by
  rw [settle_spindle]
  exact (needed_writes s).2

theorem settle_scanner (b s : State) : (settle b s).scanner = stallSeen s.scanner s := by
  have hseen : (settle b s).scanner = (judgeStall (judgeIdleFlush b (judgeIdleTimer (judgeCrossings
      (judgeHand (judgeDuties (needed s))))))).scanner := by simp [settle_eq, judged]
  rw [hseen, judgeStall_scanner]
  simp [stallSeen]

/-- The state on which the detectors look agrees with the event's own on all that they read. -/
theorem settle_sup_eq (b s : State) : (settle b s).sup =
    (judgeStall (judgeIdleFlush b (judgeIdleTimer (judgeCrossings (judgeHand (judgeDuties (needed s))))))).sup := by
  simp [settle_eq, judged]

theorem settle_flags (b s : State) (n : Nat) : (settle b s).sup.flags.getLsbD n = (s.sup.flags.getLsbD n ||
    (decide (n = 0) && crosses (freeSide s) s.sup.freeBelow s.sup.freeReported) ||
    (decide (n = 1) && crosses (dirtySide s) s.sup.dirtyAbove s.sup.dirtyReported) ||
    (decide (n = 7) && raisesPinOver s)) := by
  have hdirty : dirtySide (judgeFree (judgeHand (judgeDuties (needed s)))) = dirtySide s := by simp [dirtySide]
  have hfree : freeSide (judgeHand (judgeDuties (needed s))) = freeSide s := by simp [freeSide]
  have hstall : raisesPinOver (judgeIdleFlush b (judgeIdleTimer (judgeCrossings (judgeHand (judgeDuties (needed s)))))) =
      raisesPinOver s := by
    simp only [raisesPinOver, pinQueueFull, pinLimitHolds, queueDepth, judgeIdleFlush_frame, judgeIdleTimer_frame,
      judgeCrossings_frame, judgeHand_frame, judgeDuties_frame, needed_frame] <;> rfl
  rw [settle_sup_eq, judgeStall_flags, hstall]
  simp only [judgeIdleFlush_frame, judgeIdleTimer_frame, judgeCrossings, judgeDirty_flags, judgeFree_flags, hdirty, hfree,
    judgeFree_sides, judgeHand_frame, judgeDuties_frame, needed_frame]

theorem settle_sides (b s : State) : (settle b s).sup.freeBelow = freeSide s ∧
    (settle b s).sup.dirtyAbove = dirtySide s ∧ (settle b s).sup.freeReported = s.sup.freeReported ∧
    (settle b s).sup.dirtyReported = s.sup.dirtyReported := by
  have hdirty : dirtySide (judgeFree (judgeHand (judgeDuties (needed s)))) = dirtySide s := by simp [dirtySide]
  have hfree : freeSide (judgeHand (judgeDuties (needed s))) = freeSide s := by simp [freeSide]
  simp only [settle_sup_eq, judgeStall_sides, judgeIdleFlush_frame, judgeIdleTimer_frame, judgeCrossings,
    judgeDirty_sides, judgeFree_sides, judgeHand_frame, judgeDuties_frame, needed_frame, hdirty, hfree, and_self]

theorem settle_flags_other (b s : State) {n : Nat} (h0 : n ≠ 0) (h1 : n ≠ 1) (h7 : n ≠ 7) :
    (settle b s).sup.flags.getLsbD n = s.sup.flags.getLsbD n := by
  simp [settle_flags, h0, h1, h7]

/-- A context without its watchdog: what the end of an event leaves of it (R143). -/
theorem settle_untimed (b s : State) (c : CtxId) :
    ((settle b s).ctx c).map Context.stopWatchdog = (s.ctx c).map Context.stopWatchdog := by
  rcases settle_ctx b s c with h | h
  · rw [h]
  · rw [h, Option.map_map]
    rfl

theorem judgeWatchdogs_failure (s : State) : (judgeWatchdogs s).mover.failure = s.mover.failure := by
  have hstep (u : State) (c : CtxId) : (stopWatchdog u c).mover.failure = u.mover.failure := by
    unfold stopWatchdog
    split
    · cases c <;> rfl
    · rfl
  exact foldl_keeps (fun u : State => u.mover.failure) stopWatchdog hstep _ _

theorem settle_failure (b s : State) : (settle b s).mover.failure = s.mover.failure := by
  simp [settle_eq, judged, judgeWatchdogs_failure]

/-- Settles O30. -/
theorem eventEndFrame : Obligations.EventEndFrame := by
  unfold Obligations.EventEndFrame
  intro b s t untimed full limited
  obtain ⟨hrouting, hmap, hranges, hwalk, hheat, hstreams, haccesses, harbiter, hflash, hparams, hchoice, hpending⟩ :=
    settle_frame b s
  obtain ⟨hlist, hwithheld, htimeouts, hstatus⟩ := settle_lists b s
  obtain ⟨hmode, henable⟩ := settle_mode b s
  obtain ⟨hholds, hmask, hcursor⟩ := settle_holds b s
  obtain ⟨_, _, hfreeReported, hdirtyReported⟩ := settle_sides b s
  obtain ⟨hhand, hprogress, hrevolution⟩ := settle_hand b s
  obtain ⟨hfailed, hretry⟩ := settle_spindle_writes b s
  have hlink : LinkKept s.link (settle b s).link := settle_link b (.rfl' _)
  have hprobe : (settle b s).disk.probeTimer = s.disk.probeTimer := by rw [settle_disk_writes]
  refine ⟨hmap, hparams, hranges, hwalk, hheat, hstreams, haccesses, harbiter, hflash, hrouting, hchoice, hpending, hlist,
    hwithheld, htimeouts, hstatus, hprobe, hlink.queue, hlink.ready, hmode, hholds, hmask, hcursor, henable,
    hfreeReported, hdirtyReported, fun n h0 h1 h7 => settle_flags_other b s h0 h1 h7, hhand, hprogress, hrevolution,
    hfailed, hretry, settle_untimed b s .ctx0, settle_untimed b s .ctx1, settle_failure b s, fun hidle => ?idle,
    fun e c raised hs => ?stalled, fun hfree => ⟨settle_link_free hfree, settle_commands_free hfree⟩⟩
  case idle =>
    refine ⟨(settle_scanner b s).trans (stallSeen_idle hidle), ?_⟩
    simp only [t, settle_flags, raisesPinOver_idle hidle]
    simp
  case stalled =>
    have hraises : raisesPinOver s = (!full && limited && !raised) := by rw [raisesPinOver, hs]; rfl
    refine ⟨?_, ?_⟩
    · simp only [t, settle_scanner, hs, stallSeen, full, limited, decide_eq_true_eq]
    · simp only [t, settle_flags, hraises]
      simp

/-! ### Duties, hand and idle-flush timer (R148, R149, R150) -/

/-- The duties that the counts and the mode ask for, judged as R148 and R149 say. -/
def wantedDuties (s : State) : Duties := ⟨evictDuty s, forcedDuty s, idleDuty s⟩

theorem judgeDuties_duties (s : State) : (judgeDuties s).reclaimer.duties =
    if s.held .reclaimer ∨ s.map.slotCount = 0 then s.reclaimer.duties else wantedDuties s := by
  unfold judgeDuties setDuties
  split
  · rfl
  split
  next heq => exact heq.symm
  next => simp [wantedDuties]

theorem judgeDuties_changed {s : State} (h : ¬ (s.held .reclaimer = true ∨ s.map.slotCount = 0))
    (hd : wantedDuties s ≠ s.reclaimer.duties) : judgeDuties s =
      releaseHand { s with reclaimer := { s.reclaimer with duties := wantedDuties s } } := by
  rw [judgeDuties, if_neg h]
  exact if_neg hd

theorem judgeDuties_same {s : State} (h : (judgeDuties s).reclaimer.duties = s.reclaimer.duties) : judgeDuties s = s := by
  by_cases hskip : s.held .reclaimer = true ∨ s.map.slotCount = 0
  · exact if_pos hskip
  · rw [judgeDuties_duties, if_neg hskip] at h
    rw [judgeDuties, if_neg hskip]
    exact if_pos h

/-- A change of the duty set releases a hand that waits or pauses, and nothing else moves the condition (R152, R154). -/
theorem judgeDuties_condition {s : State} (h : (judgeDuties s).reclaimer.duties ≠ s.reclaimer.duties) :
    (judgeDuties s).reclaimer.condition =
      if s.reclaimer.condition = .waiting ∨ s.reclaimer.condition = .paused then
        if handMayMove (judgeDuties s) then .moving else .stopped
      else s.reclaimer.condition := by
  by_cases hskip : s.held .reclaimer = true ∨ s.map.slotCount = 0
  · rw [judgeDuties_duties, if_pos hskip] at h
    exact absurd rfl h
  · rw [judgeDuties_duties, if_neg hskip] at h
    rw [judgeDuties_changed hskip h]
    have hmay (u : State) : handMayMove (releaseHand u) = handMayMove u := by simp [handMayMove, State.held]
    rw [hmay, releaseHand]
    dsimp only
    split <;> rfl

theorem judgeHand_condition (s : State) : (judgeHand s).reclaimer.condition =
    if s.reclaimer.duties.any = false then .stopped
    else if s.reclaimer.condition = .waiting ∨ s.reclaimer.condition = .paused then s.reclaimer.condition
    else if handMayMove s then .moving else .stopped := by
  unfold judgeHand
  dsimp only
  split
  · rfl
  · cases hc : s.reclaimer.condition <;> simp

theorem settle_duties (b s : State) : (settle b s).reclaimer.duties =
    if s.held .reclaimer ∨ s.map.slotCount = 0 then s.reclaimer.duties
    else ⟨evictDuty s, forcedDuty s,
      s.reclaimer.duties.idle && s.map.dirtyCount != 0 && (settle b s).spindle.state == .running && s.sup.mode == .online⟩ := by
  have hspindle : (settle b s).spindle.state = (needed s).spindle.state := by rw [settle_spindle]; rfl
  have hduties : (settle b s).reclaimer.duties = (judgeDuties (needed s)).reclaimer.duties := by
    simp [settle_eq, judged, judgeIdleFlush, judgeHand]
  rw [hduties, judgeDuties_duties, hspindle]
  simp [wantedDuties, evictDuty, forcedDuty, idleDuty, State.held]

theorem settle_condition (b s : State) : (settle b s).reclaimer.condition =
    (judgeHand (judgeDuties (needed s))).reclaimer.condition := by
  simp [settle_eq, judged, judgeIdleFlush]

/-- The hand at the end of an event, on the duties that it leaves (R150, R152, R154). -/
theorem settle_condition_of_any {b s : State} (hany : (settle b s).reclaimer.duties.any = true) :
    (settle b s).reclaimer.condition =
      if (settle b s).reclaimer.duties = s.reclaimer.duties ∧
          (s.reclaimer.condition = .waiting ∨ s.reclaimer.condition = .paused) then s.reclaimer.condition
      else if s.sup.mode = .online ∧ s.held .reclaimer = false then .moving else .stopped := by
  have hduties : (settle b s).reclaimer.duties = (judgeDuties (needed s)).reclaimer.duties := by
    simp [settle_eq, judged, judgeIdleFlush, judgeHand]
  have hmay : handMayMove (judgeDuties (needed s)) = true ↔ s.sup.mode = .online ∧ s.held .reclaimer = false := by
    rw [handMayMove, ← hduties, hany]
    simp [State.held]
  have hkept : (needed s).reclaimer = s.reclaimer := by simp
  rw [settle_condition, judgeHand_condition, ← hduties, if_neg (by simp [hany])]
  simp only [hmay]
  by_cases hsame : (judgeDuties (needed s)).reclaimer.duties = (needed s).reclaimer.duties
  · rw [judgeDuties_same hsame, hduties, hsame, hkept]
    simp
  · have hchanged : (settle b s).reclaimer.duties ≠ s.reclaimer.duties := by rwa [hduties, ← hkept]
    have hmoved : (judgeDuties (needed s)).reclaimer.condition ≠ .waiting ∧
        (judgeDuties (needed s)).reclaimer.condition ≠ .paused := by
      rw [judgeDuties_condition hsame]
      split
      · split <;> simp
      next hno => exact not_or.mp hno
    have hno : ¬ ((settle b s).reclaimer.duties = s.reclaimer.duties ∧
        (s.reclaimer.condition = .waiting ∨ s.reclaimer.condition = .paused)) := fun hc => hchanged hc.1
    rw [if_neg (not_or.mpr hmoved), if_neg hno]

theorem judgeWatchdogs_usesDisk (s : State) : moverUsesDisk (judgeWatchdogs s) = moverUsesDisk s := by
  have hstep (u : State) (c : CtxId) : moverUsesDisk (stopWatchdog u c) = moverUsesDisk u := by
    unfold stopWatchdog
    split
    · cases c <;> simp [moverUsesDisk, modifyCtx, setCtx, State.ctx, Option.any_map]
    · rfl
  exact foldl_keeps moverUsesDisk stopWatchdog hstep _ _

theorem settle_idleFlushTimer (b s : State) : (settle b s).reclaimer.idleFlushTimer =
    if idleFlushCondition (settle b s) ∧ (settle b s).reclaimer.duties.idle = false then
      if idleFlushCondition b then s.reclaimer.idleFlushTimer else some (s.params.idleFlushDelay * 10)
    else none := by
  have huses : moverUsesDisk (settle b s) = moverUsesDisk s := by
    have hspin (u : State) : moverUsesDisk (judgeSpin u) = moverUsesDisk u := by simp [moverUsesDisk]
    rw [settle_eq, hspin, judged, judgeWatchdogs_usesDisk]
    simp [moverUsesDisk]
  have hspindle : (settle b s).spindle.state = (needed s).spindle.state := by rw [settle_spindle]; rfl
  have hlist : (settle b s).disk.list = (needed s).disk.list := by rw [settle_disk_eq]; rfl
  have hduties : (settle b s).reclaimer.duties = (judgeHand (judgeDuties (needed s))).reclaimer.duties := by
    simp [settle_eq, judged, judgeIdleFlush]
  have hcondition : idleFlushCondition (judgeIdleTimer (judgeCrossings (judgeHand (judgeDuties (needed s))))) =
      idleFlushCondition (settle b s) := by
    have hcrossings (u : State) : (judgeCrossings u).sup.mode = u.sup.mode ∧ (judgeCrossings u).sup.holds = u.sup.holds := by
      have hholds : SupKept u.sup (judgeCrossings u).sup := judgeCrossings_sup (.rfl' _)
      exact ⟨by simp [judgeCrossings], hholds.holds⟩
    have htimer (u : State) : (judgeIdleTimer u).spindle.state = u.spindle.state := rfl
    have hheld := (settle_holds b s).1
    simp only [idleFlushCondition, htimer, hspindle, hlist, huses, State.held, hheld]
    simp [hcrossings, moverUsesDisk]
  have htimer : (settle b s).reclaimer.idleFlushTimer =
      (judgeIdleFlush b (judgeIdleTimer (judgeCrossings (judgeHand (judgeDuties (needed s)))))).reclaimer.idleFlushTimer := by
    simp [settle_eq, judged]
  rw [htimer, judgeIdleFlush, hcondition, hduties]
  simp [judgeHand]

theorem idleFlushCondition_iff {s : State} : idleFlushCondition s = true ↔
    s.sup.mode = .online ∧ s.spindle.state = .running ∧ s.disk.list = [] ∧ moverUsesDisk s = false ∧
      s.held .reclaimer = false := by
  simp only [idleFlushCondition, Bool.and_eq_true, beq_iff_eq, List.isEmpty_iff, Bool.not_eq_true', and_assoc]

/-- Settles O31. -/
theorem eventEndCounts : Obligations.EventEndCounts := by
  unfold Obligations.EventEndCounts
  intro b s below above t moves idleFlush
  obtain ⟨hbelow, habove, hfreeReported, hdirtyReported⟩ := settle_sides b s
  have hcondition (u : State) : idleFlushCondition u = true ↔ idleFlush u := idleFlushCondition_iff
  refine ⟨hbelow, habove, hfreeReported, hdirtyReported, ?freeCross, ?dirtyCross, fun hpos hheld => ?duties, fun hskip => ?kept,
    fun hnone => ?stopped, fun hany => ⟨fun hwaits hsame => ?waits, fun hmoves => ?moves⟩, fun hoff => ?timerOff,
    fun hon hidle => ⟨fun hwas => ?timerKept, fun hbegins => ?timerLoaded⟩⟩
  case freeCross =>
    simp only [t, settle_flags]
    simp
    rfl
  case dirtyCross =>
    simp only [t, settle_flags]
    simp
    rfl
  case duties =>
    simp only [t]
    rw [settle_duties, if_neg (by simp [hpos, hheld])]
    exact ⟨rfl, rfl, rfl⟩
  case kept =>
    simp only [t]
    rw [settle_duties, if_pos hskip.symm]
  case stopped =>
    have hduties : (settle b s).reclaimer.duties = (judgeDuties (needed s)).reclaimer.duties := by
      simp [settle_eq, judged, judgeIdleFlush, judgeHand]
    simp only [t]
    rw [settle_condition, judgeHand_condition, ← hduties, if_pos hnone]
  case waits =>
    simp only [t]
    rw [settle_condition_of_any hany, if_pos ⟨hsame, hwaits⟩]
  case moves =>
    have hno : ¬ ((settle b s).reclaimer.duties = s.reclaimer.duties ∧
        (s.reclaimer.condition = .waiting ∨ s.reclaimer.condition = .paused)) := by
      rintro ⟨hsame, hw | hw⟩
      · rcases hmoves with hm | hm | hm
        · simp [hw] at hm
        · simp [hw] at hm
        · exact hm hsame
      · rcases hmoves with hm | hm | hm
        · simp [hw] at hm
        · simp [hw] at hm
        · exact hm hsame
    simp only [t]
    rw [settle_condition_of_any hany, if_neg hno]
    exact ⟨fun hm => if_pos hm, fun hm => if_neg hm⟩
  case timerOff =>
    simp only [t]
    rw [settle_idleFlushTimer, if_neg]
    rintro ⟨hcond, hidle⟩
    rcases hoff with hno | hon
    · exact hno ((hcondition _).mp hcond)
    · simp [t, hidle] at hon
  case timerKept =>
    simp only [t]
    rw [settle_idleFlushTimer, if_pos ⟨(hcondition _).mpr hon, hidle⟩, if_pos ((hcondition _).mpr hwas)]
  case timerLoaded =>
    simp only [t]
    rw [settle_idleFlushTimer, if_pos ⟨(hcondition _).mpr hon, hidle⟩, if_neg (fun hc => hbegins ((hcondition _).mp hc))]

end Sys2Proof.Machine
end

section
/-! O32, O26, O27, O53. What the end of an event judges for the spindle, and the commands and replies that it settles. -/

namespace Sys2Proof.Machine

open Sys2Proof.Safety

/-! ### Standing needs (R100) -/

theorem standingNeed_iff {s : State} : standingNeed s = true ↔
    (∃ x ∈ s.disk.list, x.state = .waiting) ∨
      (s.spindle.state ≠ .running ∧ ∃ x ∈ s.disk.list, x.state = .sent) ∨
      (s.sup.mode = .online ∧ s.spindle.state ≠ .running ∧ s.params.markDh ≤ s.map.dirtyCount) ∨
      (∃ tag, s.link.headHold = some ⟨tag, .spinUp⟩) := by
  have hpiece : pieceNeedsDisk s = true ↔ (∃ x ∈ s.disk.list, x.state = .waiting) ∨
      (s.spindle.state ≠ .running ∧ ∃ x ∈ s.disk.list, x.state = .sent) := by
    simp only [pieceNeedsDisk, List.any_eq_true, Bool.or_eq_true, Bool.and_eq_true, beq_iff_eq, bne_iff_ne]
    constructor
    · rintro ⟨x, hx, hw | ⟨hsent, hr⟩⟩
      · exact .inl ⟨x, hx, hw⟩
      · exact .inr ⟨hr, x, hx, hsent⟩
    · rintro (⟨x, hx, hw⟩ | ⟨hr, x, hx, hsent⟩)
      · exact ⟨x, hx, .inl hw⟩
      · exact ⟨x, hx, .inr ⟨hsent, hr⟩⟩
  have hspin : spinUpWaits s = true ↔ ∃ tag, s.link.headHold = some ⟨tag, .spinUp⟩ := by
    simp only [spinUpWaits, Option.any_eq_true, beq_iff_eq]
    constructor
    · rintro ⟨⟨tag, op⟩, hh, rfl⟩
      exact ⟨tag, hh⟩
    · rintro ⟨tag, hh⟩
      exact ⟨_, hh, rfl⟩
  have hdirty : dirtyHighNeed s = true ↔
      s.sup.mode = .online ∧ s.spindle.state ≠ .running ∧ s.params.markDh ≤ s.map.dirtyCount := by
    simp only [dirtyHighNeed, Bool.and_eq_true, beq_iff_eq, bne_iff_ne, decide_eq_true_eq, and_assoc]
  rw [standingNeed, Bool.or_eq_true, Bool.or_eq_true, hpiece, hspin, hdirty]
  simp only [or_assoc]

/-! ### The spindle after the pending SPIN DOWN and the needs, by its state before -/

theorem judgeSpinDown_still {s : State} (h : ¬ (s.spindle.pendingSpinDown = true ∧ s.spindle.state = .running ∧
    s.disk.list = [] ∧ moverUsesDisk s = false)) : judgeSpinDown s = s := if_neg h

theorem needed_stopped {s : State} (h : s.spindle.state = .stopped) : needed s =
    if standingNeed s = true ∧ s.disk.status = .ready ∧ s.spindle.retryTimer = none then sendStart s else s := by
  rw [needed, judgeSpinDown_still (by simp [h]), judgeNeeds, actOnNeed, h]
  by_cases hneed : standingNeed s = true <;> simp [hneed]

theorem needed_starting {s : State} (h : s.spindle.state = .starting) : needed s = s := by
  rw [needed, judgeSpinDown_still (by simp [h]), judgeNeeds, actOnNeed, h]
  simp

theorem needed_stopping {s : State} (h : s.spindle.state = .stopping) : needed s =
    if standingNeed s then { s with spindle := { s.spindle with restartPending := true } } else s := by
  rw [needed, judgeSpinDown_still (by simp [h]), judgeNeeds, actOnNeed, h]

theorem needed_running {s : State} (h : s.spindle.state = .running)
    (hstill : s.spindle.pendingSpinDown = false ∨ s.disk.list ≠ [] ∨ moverUsesDisk s = true) : needed s = s := by
  have hno : ¬ (s.spindle.pendingSpinDown = true ∧ s.spindle.state = .running ∧ s.disk.list = [] ∧
      moverUsesDisk s = false) := by
    rintro ⟨hpending, _, hlist, huses⟩
    rcases hstill with hs | hs | hs
    · simp [hs] at hpending
    · exact hs hlist
    · simp [hs] at huses
  rw [needed, judgeSpinDown_still hno, judgeNeeds, actOnNeed, h]
  simp

/-- A pending SPIN DOWN with nothing left for the disk sends its STOP (R105, R109); a need then only marks a restart. -/
theorem needed_stops {s : State} (h : s.spindle.state = .running) (hpending : s.spindle.pendingSpinDown = true)
    (hlist : s.disk.list = []) (huses : moverUsesDisk s = false) : needed s =
      if standingNeed (sendStop s) then
        { sendStop s with spindle := { (sendStop s).spindle with restartPending := true } } else sendStop s := by
  have hstop : judgeSpinDown s = sendStop s := if_pos ⟨hpending, h, hlist, huses⟩
  rw [needed, hstop]
  rfl

theorem settle_sent (b s : State) : (settle b s).disk.sent = (needed s).disk.sent := by
  rw [settle_disk_eq]
  rfl

theorem settle_spindle_state (b s : State) : (settle b s).spindle.state = (needed s).spindle.state := by
  rw [settle_spindle]
  rfl

/-- The idle timer at the end of an event: it runs, from the full delay, while the idle condition holds (R106). -/
theorem settle_spindle_needed (b s : State) : (settle b s).spindle = { (needed s).spindle with
    idleTimer := if idleCondition (needed s) then some ((needed s).spindle.idleTimer.getD (s.params.idleDelay * 1000))
      else none } := by
  have hholds (u : State) : (judgeCrossings u).sup.holds = u.sup.holds := (judgeCrossings_sup (.rfl' u.sup)).holds
  have hcondition : idleCondition (judgeCrossings (judgeHand (judgeDuties (needed s)))) = idleCondition (needed s) := by
    simp [idleCondition, moverUsesDisk, State.held, hholds]
  have hspindle : (settle b s).spindle =
      (judgeIdleTimer (judgeCrossings (judgeHand (judgeDuties (needed s))))).spindle := by simp [settle_eq, judged]
  rw [hspindle, judgeIdleTimer, hcondition]
  simp

theorem idleCondition_iff {s : State} : idleCondition s = true ↔
    s.spindle.state = .running ∧ s.disk.list = [] ∧ moverUsesDisk s = false ∧ s.params.idleDelay ≠ 0 ∧
      s.held .spindleAutoStop = false := by
  simp only [idleCondition, Bool.and_eq_true, beq_iff_eq, bne_iff_ne, List.isEmpty_iff, Bool.not_eq_true', and_assoc]

/-! ### The ends of SPIN UP and SPIN DOWN (R108, R109) -/

/-- The descriptor with `tag`, which holds the head, completes with a spindle state and the start-failed flag. -/
def spinEnded (tag : Nat) (state : SpindleState) (s t : State) : Prop :=
  t.link = { s.link with
    headHold := none
    sent := s.link.sent ++ [⟨tag, .good, none, .fields [some state.code, some s.spindle.startFailed.toNat]⟩] } ∧
  t.commands = s.commands.filter (fun x => x.tag != tag)

theorem answerGood_spinEnded {tag : Nat} {state : SpindleState} {s u : State} (hlink : u.link = s.link)
    (hcommands : u.commands = s.commands) (hfailed : u.spindle.startFailed = s.spindle.startFailed) :
    spinEnded tag state s (answerGood tag (spinResult state u) (endHold u)) := by
  rw [spinEnded, ← hlink, ← hcommands, ← hfailed]
  exact ⟨rfl, rfl⟩

theorem judged_frame (b s : State) : (judged b s).link = s.link ∧ (judged b s).commands = s.commands ∧
    (judged b s).spindle = (settle b s).spindle ∧ (judged b s).disk = (settle b s).disk := by
  refine ⟨by simp [judged], by simp [judged], by simp [settle_eq], by simp [settle_eq]⟩

theorem judged_failed (b s : State) : (judged b s).spindle.startFailed = s.spindle.startFailed := by
  rw [(judged_frame b s).2.2.1]
  exact (settle_spindle_writes b s).1

theorem spinUpOver_iff {s : State} : spinUpOver s = true ↔ s.spindle.state = .running ∨ s.disk.status = .faulted ∨
    (s.spindle.state = .stopped ∧ s.spindle.retryTimer ≠ none) := by
  simp only [spinUpOver, Bool.or_eq_true, Bool.and_eq_true, beq_iff_eq, Option.isSome_iff_ne_none, or_assoc]

theorem spinUpOver_judged {b s : State} : spinUpOver (judged b s) = true ↔ (settle b s).spindle.state = .running ∨
    s.disk.status = .faulted ∨ ((settle b s).spindle.state = .stopped ∧ s.spindle.retryTimer ≠ none) := by
  obtain ⟨_, _, hspindle, hdisk⟩ := judged_frame b s
  have hretry := (settle_spindle_writes b s).2
  rw [spinUpOver_iff, hspindle, hdisk, hretry, (settle_lists b s).2.2.2]

/-- A SPIN UP that holds the head, at its end and before it (R108). -/
theorem settle_spinUp {b s : State} {tag : Nat} (h : s.link.headHold = some ⟨tag, .spinUp⟩) :
    (spinUpOver (judged b s) = true → spinEnded tag (settle b s).spindle.state s (settle b s)) ∧
    (spinUpOver (judged b s) ≠ true → (settle b s).link = s.link ∧ (settle b s).commands = s.commands) := by
  obtain ⟨hlink, hcommands, hspindle, _⟩ := judged_frame b s
  have hhold : (judged b s).link.headHold = some ⟨tag, .spinUp⟩ := by rw [hlink, h]
  have hsettle : settle b s = if spinUpOver (judged b s) then
      answerGood tag (spinResult (judged b s).spindle.state (judged b s)) (endHold (judged b s)) else judged b s := by
    rw [settle_eq, judgeSpin, hhold]
  refine ⟨fun hover => ?_, fun hover => ?_⟩
  · rw [if_pos hover, hspindle] at hsettle
    have hended := answerGood_spinEnded (tag := tag) (state := (settle b s).spindle.state) hlink hcommands
      (judged_failed b s)
    rwa [← hsettle] at hended
  · rw [if_neg hover] at hsettle
    rw [hsettle]
    exact ⟨hlink, hcommands⟩

/-- A SPIN DOWN whose STOP has ended completes with the spindle's state (R109). -/
theorem settle_spinDown_stopped {b s : State} {tag : Nat} (h : s.link.headHold = some ⟨tag, .spinDown .stopped⟩) :
    spinEnded tag (settle b s).spindle.state s (settle b s) := by
  obtain ⟨hlink, hcommands, hspindle, _⟩ := judged_frame b s
  have hhold : (judged b s).link.headHold = some ⟨tag, .spinDown .stopped⟩ := by rw [hlink, h]
  have hsettle : settle b s =
      answerGood tag (spinResult (settle b s).spindle.state (judged b s)) (endHold (judged b s)) := by
    rw [← hspindle, settle_eq, judgeSpin, hhold]
  have hended := answerGood_spinEnded (tag := tag) (state := (settle b s).spindle.state) hlink hcommands (judged_failed b s)
  rwa [← hsettle] at hended

/-- A SPIN DOWN behind a HALT or a fault completes with STOPPED (R109, log entry 11). -/
theorem settle_spinDown_halted {b s : State} {tag : Nat} (h : s.link.headHold = some ⟨tag, .spinDown .halted⟩) :
    spinEnded tag .stopped s (settle b s) := by
  obtain ⟨hlink, hcommands, _, _⟩ := judged_frame b s
  have hhold : (judged b s).link.headHold = some ⟨tag, .spinDown .halted⟩ := by rw [hlink, h]
  have hsettle : settle b s = answerGood tag (spinResult .stopped (judged b s)) (endHold (judged b s)) := by
    rw [settle_eq, judgeSpin, hhold]
  rw [hsettle]
  exact answerGood_spinEnded hlink hcommands (judged_failed b s)

theorem settle_spinDown_waiting {b s : State} {tag : Nat} (h : s.link.headHold = some ⟨tag, .spinDown .waiting⟩) :
    (settle b s).link = s.link ∧ (settle b s).commands = s.commands := by
  obtain ⟨hlink, hcommands, _, _⟩ := judged_frame b s
  have hhold : (judged b s).link.headHold = some ⟨tag, .spinDown .waiting⟩ := by rw [hlink, h]
  have hsettle : settle b s = judged b s := by rw [settle_eq, judgeSpin, hhold]
  rw [hsettle]
  exact ⟨hlink, hcommands⟩

/-! ### The statement -/

theorem settle_stopped_starts {b s : State} (h : s.spindle.state = .stopped) (hneed : standingNeed s = true)
    (hready : s.disk.status = .ready) (hretry : s.spindle.retryTimer = none) :
    (settle b s).spindle = { s.spindle with
      state := .starting, startTimer := some (s.params.startLimit * 1000), idleTimer := none, restartPending := false } ∧
    (settle b s).disk.sent = s.disk.sent ++ [.start] := by
  have hstart : needed s = sendStart s := by rw [needed_stopped h, if_pos ⟨hneed, hready, hretry⟩]
  have hidle : idleCondition (sendStart s) = false := rfl
  refine ⟨?_, by rw [settle_sent, hstart]; rfl⟩
  rw [settle_spindle_needed, hstart, hidle]
  rfl

theorem settle_stopped_stands {b s : State} (h : s.spindle.state = .stopped)
    (hno : ¬ (standingNeed s = true ∧ s.disk.status = .ready ∧ s.spindle.retryTimer = none)) :
    (settle b s).spindle.state = .stopped ∧ (settle b s).disk.sent = s.disk.sent := by
  rw [settle_spindle_state, settle_sent, needed_stopped h, if_neg hno]
  exact ⟨h, rfl⟩

theorem settle_running {b s : State} (h : s.spindle.state = .running)
    (hstill : s.spindle.pendingSpinDown = false ∨ s.disk.list ≠ [] ∨ moverUsesDisk s = true) :
    (settle b s).spindle = { s.spindle with
      idleTimer := if idleCondition s then some (s.spindle.idleTimer.getD (s.params.idleDelay * 1000)) else none } ∧
    (settle b s).disk.sent = s.disk.sent := by
  refine ⟨?_, by rw [settle_sent, needed_running h hstill]⟩
  rw [settle_spindle_needed, needed_running h hstill]

theorem settle_stops {b s : State} (h : s.spindle.state = .running) (hpending : s.spindle.pendingSpinDown = true)
    (hlist : s.disk.list = []) (huses : moverUsesDisk s = false) :
    (settle b s).spindle.state = .stopping ∧ (settle b s).disk.sent = s.disk.sent ++ [.stop] ∧
    (settle b s).spindle.pendingSpinDown = false ∧ (settle b s).spindle.idleTimer = none ∧
    (settle b s).spindle.startTimer = some (s.params.startLimit * 1000) := by
  rw [settle_sent, settle_spindle_needed, needed_stops h hpending hlist huses]
  split <;> exact ⟨rfl, rfl, rfl, rfl, rfl⟩

/-- Settles O32. -/
theorem eventEndSpindle : Obligations.EventEndSpindle := by
  unfold Obligations.EventEndSpindle
  intro b s t dirtyHigh need completes stands
  have hneed : standingNeed s = true ↔ need := standingNeed_iff
  refine ⟨fun hn => ⟨fun hs hready hretry => ?starts, fun hs => ?restarts⟩, fun hs hno => ?stopped, fun hs hn => ?stopping,
    fun hs => ?starting, fun hs hpending => ⟨fun hlist huses => settle_stops hs hpending hlist huses, fun hbusy => ?pending⟩,
    fun hpending hs => ?running, fun tag hh => ?spinUp, fun tag hh => settle_spinDown_stopped hh,
    fun tag hh => settle_spinDown_halted hh, fun tag hh => settle_spinDown_waiting hh⟩
  case starts =>
    obtain ⟨hspindle, hsent⟩ := settle_stopped_starts (b := b) hs (hneed.mpr hn) hready hretry
    simp only [t, hspindle, hsent, and_self]
  case restarts =>
    simp only [t]
    rw [settle_spindle_needed, needed_stopping hs, if_pos (hneed.mpr hn)]
    exact ⟨hs, rfl⟩
  case stopped =>
    refine settle_stopped_stands hs ?_
    rintro ⟨hn, hready, hretry⟩
    rcases hno with hx | hx | hx
    · exact hx (hneed.mp hn)
    · exact hx hready
    · exact hx hretry
  case stopping =>
    simp only [t]
    rw [settle_spindle_needed, needed_stopping hs, if_neg (fun hx => hn (hneed.mp hx))]
  case starting =>
    simp only [t]
    rw [settle_spindle_state, settle_sent, needed_starting hs]
    exact ⟨hs, rfl⟩
  case pending =>
    obtain ⟨hspindle, hsent⟩ := settle_running (b := b) hs (.inr hbusy)
    simp only [t]
    rw [hspindle, hsent]
    exact ⟨hs, rfl, hpending⟩
  case running =>
    obtain ⟨hspindle, hsent⟩ := settle_running (b := b) hs (.inl hpending)
    simp only [t]
    rw [hspindle, hsent]
    refine ⟨hs, rfl, fun hlist huses hdelay hheld => ?_, fun hbusy => ?_⟩
    · rw [if_pos (idleCondition_iff.mpr ⟨hs, hlist, huses, hdelay, hheld⟩)]
    · rw [if_neg]
      rw [idleCondition_iff]
      rintro ⟨_, hlist, huses, hdelay, hheld⟩
      rcases hbusy with hx | hx | hx | hx
      · exact hx hlist
      · simp [huses] at hx
      · exact hdelay hx
      · simp [hheld] at hx
  case spinUp =>
    obtain ⟨hover, hwaits⟩ := settle_spinUp (b := b) hh
    exact ⟨fun he => hover (spinUpOver_judged.mpr he), fun he => hwaits (fun hx => he (spinUpOver_judged.mp hx))⟩

/-! ### SPIN UP and SPIN DOWN as they are taken -/

section

variable {s : State} {d : Descriptor} {rest : List Descriptor}

/-- The state that a SPIN UP or SPIN DOWN leads to before the event's end: it holds the head (R161). -/
def headHeld (op : Operation) (hold : HoldOp) (d : Descriptor) (rest : List Descriptor) (s : State) : State :=
  placeHold (tagOf d) hold (taken op d rest s)

theorem headHeld_frame (op : Operation) (hold : HoldOp) :
    (headHeld op hold d rest s).link = { (dequeued rest s).link with headHold := some ⟨tagOf d, hold⟩ } ∧
    (headHeld op hold d rest s).commands = s.commands ++ [managementRecord (tagOf d) op] ∧
    (headHeld op hold d rest s).spindle = s.spindle ∧ (headHeld op hold d rest s).disk = s.disk ∧
    (headHeld op hold d rest s).params = s.params := ⟨rfl, rfl, rfl, rfl, rfl⟩

theorem exec_spinUp_head (h : HeadIs .spinUp d rest s) :
    exec .spinUp s = .next (settle s (headHeld .spinUp .spinUp d rest s)) := by
  rw [exec, execSpinUp, judged_head h]
  rfl

theorem freed_commands {op : Operation} (h : HeadIs op d rest s) :
    (s.commands ++ [managementRecord (tagOf d) op]).filter (fun r => r.tag != tagOf d) = s.commands :=
  congrArg State.commands (freeRecord_taken h)

/-- A SPIN UP that completes in the event that takes it. -/
theorem spinUp_answered {st : SpindleState} {t : State} (h : HeadIs .spinUp d rest s)
    (hended : spinEnded (tagOf d) st (headHeld .spinUp .spinUp d rest s) t) :
    t.link = (replied d .good (.fields [some st.code, some s.spindle.startFailed.toNat]) (dequeued rest s)).link ∧
      t.commands = s.commands := by
  have ⟨hfree, _⟩ := h
  obtain ⟨hlink, hcommands⟩ := hended
  refine ⟨?_, hcommands.trans (freed_commands h)⟩
  rw [hlink, replied]
  simp [headHeld, placeHold, taken, dequeued, hfree]

/-- Settles O26. -/
theorem spinUpSettled : Obligations.SpinUp := by
  unfold Obligations.SpinUp
  intro s d rest h hpending answeredWith holds failing
  have hhold : (headHeld .spinUp .spinUp d rest s).link.headHold = some ⟨tagOf d, .spinUp⟩ := rfl
  have hneed : standingNeed (headHeld .spinUp .spinUp d rest s) = true :=
    standingNeed_iff.mpr (.inr (.inr (.inr ⟨_, hhold⟩)))
  obtain ⟨hover, hwaits⟩ := settle_spinUp (b := s) hhold
  have hanswered {st : SpindleState} {t : State} (ht : t = settle s (headHeld .spinUp .spinUp d rest s))
      (hend : t.spindle.state = .running ∨ s.disk.status = .faulted ∨
        (t.spindle.state = .stopped ∧ s.spindle.retryTimer ≠ none))
      (hst : t.spindle.state = st) (hsent : t.disk.sent = s.disk.sent) : answeredWith st t := by
    subst ht
    have hended := hover (spinUpOver_judged.mpr hend)
    rw [hst] at hended
    obtain ⟨hlink, hcommands⟩ := spinUp_answered h hended
    exact ⟨hlink, hcommands, hst, hsent⟩
  have hheld {t : State} (ht : t = settle s (headHeld .spinUp .spinUp d rest s)) (hrun : t.spindle.state ≠ .running)
      (hport : s.disk.status ≠ .faulted) (hretry : t.spindle.state = .stopped → s.spindle.retryTimer = none) : holds t := by
    subst ht
    refine hwaits fun hx => ?_
    rcases spinUpOver_judged.mp hx with hx | hx | ⟨hx, hx'⟩
    · exact hrun hx
    · exact hport hx
    · exact hx' (hretry hx)
  refine ⟨_, exec_spinUp_head h, by simp [headHeld], by simp [headHeld], by simp [headHeld], by simp [headHeld],
    by simp [headHeld], fun hs => ?running, fun hs hf => ?failing, fun hs hretry hready => ?starts,
    fun hs hretry hprobing => ?probing, fun hs hready => ?starting, fun hs hready => ?stopping⟩
  case running =>
    obtain ⟨hspindle, hsent⟩ := settle_running (b := s) (s := headHeld .spinUp .spinUp d rest s) hs (.inl hpending)
    have hst : (settle s (headHeld .spinUp .spinUp d rest s)).spindle.state = .running := by rw [hspindle]; exact hs
    exact hanswered rfl (.inl hst) hst hsent
  case failing =>
    have hfail : s.spindle.retryTimer ≠ none ∨ s.disk.status = .faulted := by
      simpa only [failing, Bool.or_eq_true, Option.isSome_iff_ne_none, beq_iff_eq] using hf
    obtain ⟨hst, hsent⟩ := settle_stopped_stands (b := s) (s := headHeld .spinUp .spinUp d rest s) hs (by
      rintro ⟨_, hready, hretry⟩
      have hready : s.disk.status = .ready := hready
      rcases hfail with hx | hx
      · exact hx hretry
      · rw [hx] at hready
        cases hready)
    exact hanswered rfl (hfail.elim (fun hx => .inr (.inr ⟨hst, hx⟩)) (fun hx => .inr (.inl hx))) hst hsent
  case starts =>
    obtain ⟨hspindle, hsent⟩ := settle_stopped_starts (b := s) (s := headHeld .spinUp .spinUp d rest s) hs hneed hready hretry
    exact ⟨hheld rfl (by rw [hspindle]; simp) (by simp [hready]) (fun _ => hretry), hsent, hspindle⟩
  case probing =>
    obtain ⟨hst, hsent⟩ := settle_stopped_stands (b := s) (s := headHeld .spinUp .spinUp d rest s) hs (by
      rintro ⟨_, hready, _⟩
      have hready : s.disk.status = .ready := hready
      rw [hprobing] at hready
      cases hready)
    exact ⟨hheld rfl (by simp [hst]) (by simp [hprobing]) (fun _ => hretry), hsent, hst⟩
  case starting =>
    have hneeded : needed (headHeld .spinUp .spinUp d rest s) = headHeld .spinUp .spinUp d rest s := needed_starting hs
    have hst : (settle s (headHeld .spinUp .spinUp d rest s)).spindle.state = .starting := by
      rw [settle_spindle_state, hneeded]
      exact hs
    refine ⟨hheld rfl (by simp [hst]) (by simp [hready]) (fun hx => by rw [hst] at hx; cases hx), ?_, hst⟩
    rw [settle_sent, hneeded]
    rfl
  case stopping =>
    have hneeded := (needed_stopping (s := headHeld .spinUp .spinUp d rest s) hs).trans (if_pos hneed)
    have hst : (settle s (headHeld .spinUp .spinUp d rest s)).spindle.state = .stopping := by
      rw [settle_spindle_state, hneeded]
      exact hs
    refine ⟨hheld rfl (by simp [hst]) (by simp [hready]) (fun hx => by rw [hst] at hx; cases hx), ?_, hst, ?_⟩
    · rw [settle_sent, hneeded]
      rfl
    · rw [settle_spindle_needed, hneeded]

/-- A SPIN DOWN that is not completed at once holds the head, and is pending unless a STOP is outstanding (R109). -/
theorem ownSpinDown_held (hs : s.spindle.state ≠ .stopped) : ∃ p,
    ownSpinDown d (tagOf d) (taken .spinDown d rest s) = { headHeld .spinDown (.spinDown .waiting) d rest s with
      spindle := { s.spindle with pendingSpinDown := p } } ∧ (s.spindle.state ≠ .stopping → p = true) := by
  have hstate : (taken .spinDown d rest s).spindle.state = s.spindle.state := rfl
  unfold ownSpinDown
  rw [hstate]
  cases hst : s.spindle.state with
  | stopped => exact absurd hst hs
  | stopping => exact ⟨s.spindle.pendingSpinDown, rfl, fun hx => absurd rfl hx⟩
  | starting => exact ⟨true, rfl, fun _ => rfl⟩
  | running => exact ⟨true, rfl, fun _ => rfl⟩

/-- Settles O27. -/
theorem spinDownSettled : Obligations.SpinDown := by
  unfold Obligations.SpinDown
  intro s d rest h holds
  have hown : exec .spinDown s = .next (settle s (ownSpinDown d (tagOf d) (taken .spinDown d rest s))) := by
    rw [exec, execSpinDown, judged_head h]
  refine ⟨fun hs => ?stopped, fun hs => ?other⟩
  case stopped =>
    have hs : (taken .spinDown d rest s).spindle.state = .stopped := hs
    rw [hown, ownSpinDown, hs]
    dsimp only
    rw [answerGood_of h rfl]
    rfl
  case other =>
    obtain ⟨p, hheld, hp⟩ := ownSpinDown_held (d := d) (rest := rest) hs
    rw [hheld] at hown
    have hholds := settle_spinDown_waiting (b := s) (s := { headHeld .spinDown (.spinDown .waiting) d rest s with
      spindle := { s.spindle with pendingSpinDown := p } }) (tag := tagOf d) rfl
    refine ⟨_, hown, hholds, by simp [headHeld], by simp [headHeld], by simp [headHeld], by simp [headHeld],
      by simp [headHeld], fun hs hlist huses => ?stops, fun hs hbusy => ?pending, fun hs => ?starting, fun hs => ?stopping⟩
    case stops =>
      have hpending : p = true := hp (by simp [hs])
      obtain ⟨hst, hsent, hpend, hidle, htimer⟩ := settle_stops (b := s) (s := { headHeld .spinDown (.spinDown .waiting)
        d rest s with spindle := { s.spindle with pendingSpinDown := p } }) hs hpending hlist huses
      exact ⟨hst, hsent, hidle, htimer, hpend⟩
    case pending =>
      obtain ⟨hspindle, hsent⟩ := settle_running (b := s) (s := { headHeld .spinDown (.spinDown .waiting) d rest s with
        spindle := { s.spindle with pendingSpinDown := p } }) hs (.inr hbusy)
      rw [hspindle, hsent]
      exact ⟨hs, rfl, hp (by simp [hs])⟩
    case starting =>
      rw [settle_spindle_needed, settle_sent, needed_starting (by exact hs)]
      exact ⟨hs, rfl, hp (by simp [hs])⟩
    case stopping =>
      rw [settle_spindle_state, settle_sent, needed_stopping (by exact hs)]
      split <;> exact ⟨hs, rfl⟩

end

/-! ### The end of a STOP -/

theorem noteStopped_waiting {s : State} {tag : Nat} (ph : SpinDownPhase)
    (h : s.link.headHold = some ⟨tag, .spinDown .waiting⟩) : noteStopped ph s =
      placeHold tag (.spinDown ph) { s with spindle := { s.spindle with pendingSpinDown := false } } := by
  simp only [noteStopped, h]

/-- The end of a STOP with a SPIN DOWN at the head: its completion is due, and a pending restart is sent (R105, R109). -/
theorem finishStop_waiting {s : State} {tag : Nat} (h : s.link.headHold = some ⟨tag, .spinDown .waiting⟩) :
    (finishStop s).link = { s.link with headHold := some ⟨tag, .spinDown .stopped⟩ } ∧
    (finishStop s).spindle.startFailed = s.spindle.startFailed ∧
    (finishStop s).spindle.state = (if s.spindle.restartPending then .starting else .stopped) := by
  rw [finishStop, noteStopped_waiting (h := by exact h)]
  dsimp only
  split <;> exact ⟨rfl, rfl, rfl⟩

/-- Settles O53. -/
theorem stopEnds : Obligations.StopEnds := by
  unfold Obligations.StopEnds
  intro s stopped restarted ended
  have hreply : exec .stopReply s = .next (event s (stopReply s)) := rfl
  have hexpiry : exec .startTimerExpiry s = .next (event s (startTimerExpiry s)) := rfl
  have hfinish {u : State} (hspindle : u.spindle = s.spindle) (hdisk : u.disk = s.disk) (hparams : u.params = s.params)
      (hfree : u.link.headHold = none) : finishStop u = ended u := by
    rw [finishStop, noteStopped_free (h := by exact hfree), hspindle]
    simp only [ended]
    split
    · simp only [restarted, ← hdisk, ← hparams]
      rfl
    · rfl
  refine ⟨fun hs => ?_, fun hs hfree => ?_, fun hs hfree htimer => ?_, fun tag hs hhold => ?_⟩
  · rw [hreply, stopReply, if_neg hs, event_none]
  · rw [hreply, stopReply, if_pos hs, event_some, hfinish rfl rfl rfl hfree]
  · rw [hexpiry, startTimerExpiry, if_neg (by simpa using htimer), hs]
    dsimp only
    rw [event_some, hfinish (by simp) (by simp) (by simp) (by simpa using hfree)]
    rfl
  · obtain ⟨hlink, hfailed, hstate⟩ := finishStop_waiting hhold
    have hcommands : (finishStop s).commands = s.commands := by simp
    obtain ⟨hended, hfreed⟩ := settle_spinDown_stopped (b := s) (s := finishStop s) (tag := tag) (by rw [hlink])
    refine ⟨_, by rw [hreply, stopReply, if_pos hs, event_some], ?_, ?_, ?_, fun hrestart => ?_⟩
    · rw [hended, hlink, hfailed]
    · rw [hfreed, hcommands]
    · rw [settle_spindle_state]
      cases hrestart : s.spindle.restartPending with
      | true =>
        rw [hrestart, if_pos rfl] at hstate
        rw [needed_starting hstate]
        exact .inr hstate
      | false =>
        rw [hrestart, if_neg Bool.false_ne_true] at hstate
        rw [needed_stopped hstate]
        split
        · exact .inr rfl
        · exact .inl hstate
    · rw [if_pos hrestart] at hstate
      rw [settle_spindle_state, needed_starting hstate, hstate]

end Sys2Proof.Machine
end

section
/-! O50, O52. The ends of a probe and of a START. -/

namespace Sys2Proof.Machine

open Sys2Proof.Safety

/-! ### The descriptor that holds the head completes (R96, R167) -/

/-- The state after the descriptor that holds the head of `s` has completed with one field (R161, R162). -/
def holdEnded (tag code : Nat) (s u : State) : State := { u with
  link := { s.link with headHold := none, sent := s.link.sent ++ [⟨tag, .good, none, .fields [some code]⟩] }
  commands := s.commands.filter (fun x => x.tag != tag) }

theorem finishHold_free {op : HoldOp} {code : Nat} {u : State} (h : u.link.headHold = none) : finishHold op code u = u := by
  simp only [finishHold, h]

theorem finishHold_held {op : HoldOp} {tag code : Nat} {s u : State} (hh : s.link.headHold = some ⟨tag, op⟩)
    (hlink : u.link = s.link) (hcommands : u.commands = s.commands) :
    finishHold op code u = holdEnded tag code s u := by
  have hu : u.link.headHold = some ⟨tag, op⟩ := by rw [hlink, hh]
  simp only [finishHold, hu, if_true, holdEnded, ← hlink, ← hcommands]
  rfl

/-! ### Probes -/

theorem sendWaiting_sends {p : Port} {s : State} (h : maySend p s = true) :
    sendWaiting p s = setPort p ((s.port p).sendAll (pieceLimit s p)) s := if_pos h

/-- No job occupies a context: only the WAITING disk pieces are left to be sent (R87, R143). -/
theorem enterRunning_idle {s : State} (h0 : s.mover.ctx0 = none) (h1 : s.mover.ctx1 = none)
    (hready : s.disk.status = .ready) : enterRunning s = { s with
      disk := s.disk.sendAll (s.params.diskLimit * 100)
      spindle := { s.spindle with state := .running, startFailed := false } } := by
  have hreload (u : State) (c : CtxId) (hu : u.mover = s.mover) : reloadWatchdog u c = u := by
    cases c <;> simp [reloadWatchdog, State.ctx, hu, h0, h1]
  rw [enterRunning, List.foldl_cons, List.foldl_cons, List.foldl_nil, hreload _ .ctx0 (by rfl),
    hreload _ .ctx1 (by rfl)]
  exact sendWaiting_sends (by simp [maySend, hready])

theorem probeReady_flash {b : Byte} {s : State} (h : s.flash.status = .probing) : probeReady .flash b s =
    some (finishHold (.portRestart .flash) 1
      (flashReady { s with
        flash := PortUnit.sendAll { s.flash with status := .ready, probeTimer := none } (s.params.flashLimit * 10) })) :=
  if_neg fun hnot => hnot h

theorem probeReady_disk {b : Byte} {s : State} (h : s.disk.status = .probing) (hb : b ≠ 1#8) : probeReady .disk b s =
    some (finishHold (.portRestart .disk) 1 { s with
      disk := { s.disk with status := .ready, probeTimer := none }
      spindle := { s.spindle with state := .stopped, startFailed := false, retryTimer := none } }) := by
  rw [probeReady, if_neg (fun hnot => hnot h)]
  simp only [if_neg hb]
  rfl

theorem probeReady_disk_running {s : State} (h : s.disk.status = .probing) : probeReady .disk 1#8 s =
    some (finishHold (.portRestart .disk) 1 (enterRunning { s with
      disk := { s.disk with status := .ready, probeTimer := none }
      spindle := { s.spindle with state := .stopped, startFailed := false, retryTimer := none } })) :=
  if_neg fun hnot => hnot h

theorem probeTimeout_flash {s : State} (h : s.flash.probeTimer ≠ none) (hlist : s.flash.list = []) :
    probeTimeout .flash s = some (finishHold (.portRestart .flash) 2
      (if s.sup.enableWaiting then
        finishEnable .flashLost (setFlag .portFault { s with
          flash := { s.flash with status := .faulted, probeTimer := none } })
      else setFlag .portFault { s with flash := { s.flash with status := .faulted, probeTimer := none } })) := by
  have hnone : ¬ ((s.port .flash).probeTimer.isNone = true) := by simpa [State.port] using h
  rw [probeTimeout, if_neg hnone, forceWhere_nil _ (by exact hlist)]
  rfl

theorem probeTimeout_disk {s : State} (h : s.disk.probeTimer ≠ none) (hlist : s.disk.list = []) :
    probeTimeout .disk s = some (finishHold (.portRestart .disk) 2 { s with
      disk := { s.disk with status := .faulted, probeTimer := none }
      sup := (setFlag .portFault s).sup, spindle := { s.spindle with state := .stopped } }) := by
  have hnone : ¬ ((s.port .disk).probeTimer.isNone = true) := by simpa [State.port] using h
  rw [probeTimeout, if_neg hnone, forceWhere_nil _ (by exact hlist)]
  rfl

/-- An event that ends in the completion of the descriptor at the head: without one, and with one. -/
theorem finishHold_cases {op : HoldOp} {code : Nat} {s u : State} {e : Answer} (hlink : u.link = s.link)
    (hcommands : u.commands = s.commands) (he : e = .next (settle s (finishHold op code u))) :
    (s.link.headHold = none → e = .next (settle s u)) ∧
    (∀ tag, s.link.headHold = some ⟨tag, op⟩ → e = .next (settle s (holdEnded tag code s u))) := by
  refine ⟨fun hfree => ?_, fun tag hh => ?_⟩
  · rw [he, finishHold_free (by rw [hlink, hfree])]
  · rw [he, finishHold_held hh hlink hcommands]

/-- Settles O50. -/
theorem probeEnds : Obligations.ProbeEnds := by
  unfold Obligations.ProbeEnds
  intro s spindle ended readyFlash readyDisk faulted
  have hreply (p : Port) (b : Byte) : exec (.probeReady p b) s = .next (event s (probeReady p b s)) := rfl
  have hexpiry (p : Port) : exec (.probeTimeout p) s = .next (event s (probeTimeout p s)) := rfl
  refine ⟨fun p hp => ?discarded, fun p hp => ?untimed, fun hs hwait hmode => ?flash, fun hs hwait hmode => ?back,
    fun tag hs hwait hh => ?enable, fun hs hb => ?disk, fun hs h0 h1 => ?running, fun ht hlist hwait => ?flashFault,
    fun tag ht hlist hwait hh => ?enableFault, fun ht hlist => ?diskFault⟩
  case discarded => rw [hreply, probeReady, if_pos hp, event_none]
  case untimed => rw [hexpiry, probeTimeout, if_pos (by simp [hp]), event_none]
  case flash =>
    refine finishHold_cases (op := .portRestart .flash) (code := 1) (u := readyFlash) rfl rfl ?_
    rw [hreply, probeReady_flash hs, event_some, flashReady, if_neg (by simp [hwait]), if_neg (by exact hmode)]
  case back =>
    refine finishHold_cases (op := .portRestart .flash) (code := 1)
      (u := restartScanner { readyFlash with sup := { s.sup with mode := .online } }) (by simp [readyFlash])
      (by simp [readyFlash]) ?_
    rw [hreply, probeReady_flash hs, event_some, flashReady, if_neg (by simp [hwait]), if_pos (by exact hmode)]
    rfl
  case enable =>
    have hready : flashReady readyFlash = holdEnded tag 1 s (restartScanner
        { readyFlash with sup := { s.sup with mode := .online, enableWaiting := false } }) := by
      rw [flashReady, if_pos (by exact hwait), finishEnable]
      exact finishHold_held hh (by simp [readyFlash, enterOnline, setMode]) (by simp [readyFlash, enterOnline, setMode])
    have hfree : (holdEnded tag 1 s (restartScanner
        { readyFlash with sup := { s.sup with mode := .online, enableWaiting := false } })).link.headHold = none := rfl
    rw [hreply, probeReady_flash hs, event_some, hready, finishHold_free hfree]
    rfl
  case disk =>
    refine finishHold_cases (op := .portRestart .disk) (code := 1) (u := readyDisk) rfl rfl ?_
    rw [hreply, probeReady_disk hs hb, event_some]
  case running =>
    intro running
    refine finishHold_cases (op := .portRestart .disk) (code := 1) (u := running) rfl rfl ?_
    rw [hreply, probeReady_disk_running hs, event_some, enterRunning_idle (by exact h0) (by exact h1) rfl]
  case flashFault =>
    intro lost
    refine finishHold_cases (op := .portRestart .flash) (code := 2) (u := lost) rfl rfl ?_
    rw [hexpiry, probeTimeout_flash ht hlist, event_some, if_neg (by simp [hwait])]
    rfl
  case enableFault =>
    have hlost : finishEnable .flashLost (setFlag .portFault { s with
        flash := { s.flash with status := .faulted, probeTimer := none } }) = holdEnded tag 2 s { s with
          flash := faulted s.flash, scanner := .idle
          sup := { (setFlag .portFault s).sup with mode := .flashLost, enableWaiting := false } } := by
      rw [finishEnable]
      exact finishHold_held hh rfl rfl
    rw [hexpiry, probeTimeout_flash ht hlist, event_some, if_pos hwait, hlost, finishHold_free rfl]
    rfl
  case diskFault =>
    intro lost
    refine finishHold_cases (op := .portRestart .disk) (code := 2) (u := lost) rfl rfl ?_
    rw [hexpiry, probeTimeout_disk ht hlist, event_some]

/-! ### A START reply of OK (R98, R102) -/

theorem findPiece_middle {pre suf : List Piece} {x : Piece} (h : ∀ y ∈ pre, y.id ≠ x.id) :
    findPiece x.id (pre ++ x :: suf) = some (x, suf) := by
  induction pre with
  | nil => simp [findPiece]
  | cons y pre ih =>
    rw [List.cons_append, findPiece, if_neg (h y List.mem_cons_self)]
    exact ih fun z hz => h z (List.mem_cons_of_mem _ hz)

/-- A change of the piece with an id that one piece of the list alone has. -/
theorem map_modify_middle {pre suf : List Piece} {x : Piece} (f : Piece → Piece) (hpre : ∀ y ∈ pre, y.id ≠ x.id)
    (hsuf : ∀ y ∈ suf, y.id ≠ x.id) :
    (pre ++ x :: suf).map (fun y => if y.id = x.id then f y else y) = pre ++ f x :: suf := by
  have hother {l : List Piece} (h : ∀ y ∈ l, y.id ≠ x.id) : l.map (fun y => if y.id = x.id then f y else y) = l := by
    exact (List.map_congr_left (g := id) fun y hy => if_neg (h y hy)).trans (List.map_id l)
  rw [List.map_append, List.map_cons, hother hpre, hother hsuf, if_pos rfl]

/-- A piece still SENT from a HALT goes back to WAITING once (R98). -/
def wentBack (x : Piece) : Piece :=
  if x.state = .sent then { x with state := .waiting, retryUsed := true, timer := none } else x

theorem wentBack_id (x : Piece) : (wentBack x).id = x.id := by
  unfold wentBack
  split <;> rfl

theorem wentBack_aborting (x : Piece) : (wentBack x).state = .aborting ↔ x.state = .aborting := by
  unfold wentBack
  split
  next h => simp [h]
  next => rfl

/-- The disk's list replaced, and nothing else. -/
def withDiskList (l : List Piece) (s : State) : State := { s with disk := { s.disk with list := l } }

/-- A piece that has not gone back yet, of an owner that has not asked for its abort (R93, R98). -/
def mayGoBack (s : State) (x : Piece) : Prop :=
  x.retryUsed = false ∧ ∀ c y, x.owner = .context c → s.ctx c = some y → y.abort = none

theorem retries_of_mayGoBack {s : State} {x : Piece} (h : mayGoBack s x) : retries s x = true := by
  obtain ⟨hunused, hasked⟩ := h
  have howner : ownerAsked s x = false := by
    unfold ownerAsked
    split
    next c howner =>
      cases hc : s.ctx c with
      | none => rfl
      | some y => simp [hasked c y howner hc]
    next => rfl
    next => rfl
  simp [retries, hunused, howner]

theorem takeCaughtAborted_back {s : State} {pre suf : List Piece} {x : Piece} (hpre : ∀ y ∈ pre, y.id ≠ x.id)
    (hsuf : ∀ y ∈ suf, y.id ≠ x.id) (hsent : x.state = .sent) (hx : mayGoBack s x) :
    takeCaughtAborted (withDiskList (pre ++ x :: suf) s) x.id = withDiskList (pre ++ wentBack x :: suf) s := by
  have hfind : findPiece x.id (withDiskList (pre ++ x :: suf) s).disk.list = some (x, suf) := findPiece_middle hpre
  have hctx (c : CtxId) : (withDiskList (pre ++ x :: suf) s).ctx c = s.ctx c := by cases c <;> rfl
  have hretries : retries (withDiskList (pre ++ x :: suf) s) x = true :=
    retries_of_mayGoBack (by simpa only [mayGoBack, hctx] using hx)
  have hlist := map_modify_middle (fun y => { y with state := .waiting, retryUsed := true, timer := none }) hpre hsuf
  rw [takeCaughtAborted, hfind]
  dsimp only
  rw [if_pos hretries, wentBack, if_pos hsent, ← hlist]
  rfl

/-- All pieces still SENT go back, in list order (R98, log entry 12). -/
theorem foldl_takeCaughtAborted {s : State} : ∀ (suf pre : List Piece), ((pre ++ suf).map (·.id)).Nodup →
    (∀ x ∈ suf, x.state = .sent → mayGoBack s x) →
    ((suf.filter (fun x => x.state == .sent)).map (·.id)).foldl takeCaughtAborted (withDiskList (pre ++ suf) s) =
      withDiskList (pre ++ suf.map wentBack) s
  | [], _, _, _ => rfl
  | x :: suf, pre, hnodup, hback => by
    have hids : ∀ y ∈ pre ++ suf, y.id ≠ x.id := by
      have hmiddle : (x.id :: (pre ++ suf).map (·.id)).Nodup := by
        have hperm : ((pre ++ x :: suf).map (·.id)).Perm ((x :: (pre ++ suf)).map (·.id)) :=
          List.perm_middle.map _
        exact hperm.nodup_iff.mp hnodup
      intro y hy heq
      exact (List.nodup_cons.mp hmiddle).1 (heq ▸ List.mem_map_of_mem hy)
    have hnext := foldl_takeCaughtAborted suf (pre ++ [wentBack x])
      (by simpa [wentBack_id, List.map_append, List.append_assoc] using hnodup)
      (fun y hy => hback y (List.mem_cons_of_mem _ hy))
    rw [List.append_assoc, List.append_assoc, List.singleton_append, List.singleton_append] at hnext
    by_cases hsent : x.state = .sent
    · rw [List.filter_cons_of_pos (by simp [hsent]), List.map_cons, List.foldl_cons,
        takeCaughtAborted_back (fun y hy => hids y (List.mem_append_left _ hy))
          (fun y hy => hids y (List.mem_append_right _ hy)) hsent (hback x List.mem_cons_self hsent)]
      exact hnext
    · have hsame : wentBack x = x := if_neg hsent
      rw [hsame] at hnext
      rw [List.filter_cons_of_neg (by simp [hsent]), List.map_cons, hsame]
      exact hnext

/-- A watchdog loaded where the job's disk piece waits, or is held SENT after a HALT (R143). -/
def reloaded (s : State) (y : Context) : Context :=
  if s.params.watchdogCode ≠ 0 ∧ waitsForDisk s y = true then
    { y with watchdog := some (s.params.watchdogCode * 10) }
  else y

theorem reloadWatchdog_eq (s : State) (c : CtxId) : reloadWatchdog s c = modifyCtx c (reloaded s) s := by
  have hsame (v : Option Context) (h : v = s.ctx c) : setCtx c v s = s := by
    subst h
    cases c <;> rfl
  unfold reloadWatchdog modifyCtx
  cases hc : s.ctx c with
  | none => exact (hsame none hc.symm).symm
  | some y =>
    simp only [Option.any_some, Option.map_some]
    by_cases hcode : s.params.watchdogCode = 0
    · have hkept : reloaded s y = y := if_neg fun h => h.1 hcode
      rw [loadWatchdog, if_pos hcode, ite_self, hkept, hsame _ hc.symm]
    · split
      next hwaits =>
        have hload : reloaded s y = { y with watchdog := some (s.params.watchdogCode * 10) } := if_pos ⟨hcode, hwaits⟩
        rw [loadWatchdog, if_neg hcode, modifyCtx, hc, hload]
        rfl
      next hno =>
        have hkept : reloaded s y = y := if_neg fun h => hno h.2
        rw [hkept, hsame _ hc.symm]

theorem waitsForDisk_iff {s : State} {y : Context} : waitsForDisk s y = true ↔
    ∃ id, y.piece = some id ∧ ∃ x ∈ s.disk.list, x.id = id ∧ x.state ≠ .aborting := by
  simp only [waitsForDisk, Option.any_eq_true, List.any_eq_true, Bool.and_eq_true, beq_iff_eq, bne_iff_ne]

/-- The pieces that go back change no job's wait for the disk. -/
theorem waitsForDisk_wentBack {s u : State} {y : Context} (h : u.disk.list = s.disk.list.map wentBack) :
    waitsForDisk u y = true ↔ ∃ id, y.piece = some id ∧ ∃ x ∈ s.disk.list, x.id = id ∧ x.state ≠ .aborting := by
  rw [waitsForDisk_iff, h]
  refine exists_congr fun id => and_congr_right fun _ => ⟨?_, ?_⟩
  · rintro ⟨_, hmem, hid, hstate⟩
    obtain ⟨x, hx, rfl⟩ := List.mem_map.mp hmem
    exact ⟨x, hx, (wentBack_id x).symm.trans hid, mt (wentBack_aborting x).mpr hstate⟩
  · rintro ⟨x, hx, hid, hstate⟩
    exact ⟨wentBack x, List.mem_map_of_mem hx, (wentBack_id x).trans hid, mt (wentBack_aborting x).mp hstate⟩

/-- The spindle reaches RUNNING behind a READY port (R87, R143). -/
theorem enterRunning_ready {s : State} (h : s.disk.status = .ready) : enterRunning s = { s with
    spindle := { s.spindle with state := .running, startFailed := false }
    mover := { s.mover with ctx0 := s.mover.ctx0.map (reloaded s), ctx1 := s.mover.ctx1.map (reloaded s) }
    disk := s.disk.sendAll (s.params.diskLimit * 100) } := by
  rw [enterRunning, List.foldl_cons, List.foldl_cons, List.foldl_nil, reloadWatchdog_eq, reloadWatchdog_eq]
  exact sendWaiting_sends (by simp [maySend, h])

theorem startReply_ok {s : State} (h : s.spindle.state = .starting) : startReply 0#8 s = some (finishStart s) :=
  if_neg fun hnot => hnot h

theorem startReply_failed {s : State} (h : s.spindle.state = .starting) : startReply 1#8 s = some (failStart s) :=
  if_neg fun hnot => hnot h

theorem startReply_discarded {b : Byte} {s : State} (h : s.spindle.state ≠ .starting ∨ 1 < b.toNat) :
    startReply b s = none := by
  unfold startReply
  split
  next => rfl
  next hs =>
    have hbig : 1 < b.toNat := h.resolve_left hs
    split
    next h0 => omega
    next h1 => omega
    next => rfl

/-- Settles O52. -/
theorem startEnds : Obligations.StartEnds := by
  unfold Obligations.StartEnds
  intro s status
  have hreply (b : Byte) : exec (.startReply b) s = .next (event s (startReply b s)) := rfl
  have hexpiry : exec .startTimerExpiry s = .next (event s (startTimerExpiry s)) := rfl
  refine ⟨fun hbad => ?discarded, fun hs => ⟨fun hready hnodup hback => ?started, fun hlist hfree => ?failed⟩,
    fun htimer => ?untimed⟩
  case discarded => rw [hreply, startReply_discarded hbad, event_none]
  case started =>
    intro back timed
    have hcaught := foldl_takeCaughtAborted (s := { s with spindle := { s.spindle with startTimer := none } })
      s.disk.list [] hnodup hback
    have htimed : reloaded (withDiskList (s.disk.list.map wentBack)
        { s with spindle := { s.spindle with startTimer := none } }) = timed := by
      funext y
      simp only [reloaded, waitsForDisk_wentBack (s := s) (u := withDiskList (s.disk.list.map wentBack)
        { s with spindle := { s.spindle with startTimer := none } }) rfl]
      rfl
    have hfinish : finishStart s = enterRunning (withDiskList (s.disk.list.map wentBack)
        { s with spindle := { s.spindle with startTimer := none } }) := congrArg enterRunning hcaught
    rw [hreply, startReply_ok hs, event_some, hfinish, enterRunning_ready (by exact hready), htimed]
    rfl
  case failed =>
    intro failed
    have hfails : failStart s = failed := failStart_idle hlist hfree
    refine ⟨?_, fun htimer => ?_⟩
    · rw [hreply, startReply_failed hs, event_some, hfails]
    · rw [hexpiry, startTimerExpiry, if_neg (by simpa using htimer), hs]
      dsimp only
      rw [event_some, hfails]
  case untimed => rw [hexpiry, startTimerExpiry, if_pos (by simp [htimer]), event_none]

end Sys2Proof.Machine
end

section
/-! O39, O40. The Heat Unit: what it posts and what it hints, an access, and a sweep visit. -/

namespace Sys2Proof.Machine

open Sys2Proof.Safety

/-! ### Hot-Fill postings (R34, R40, R115) -/

theorem setFlag_twice (f : EventFlag) (s : State) : setFlag f (setFlag f s) = setFlag f s := by
  have hflags : s.sup.flags ||| f.toSet ||| f.toSet = s.sup.flags ||| f.toSet := by
    rw [BitVec.or_assoc, BitVec.or_self]
  simp only [setFlag, Supervision.drive, hflags]

/-- A flag set twice in Supervision, whatever else has changed between. -/
theorem setFlag_sup_congr {f : EventFlag} {s t : State} (h : t.sup = s.sup) : (setFlag f t).sup = (setFlag f s).sup := by
  simp only [setFlag, h]

theorem posted_nil (s : State) : posted [] s = s := by
  simp [posted]

theorem mem_queues_posted {jobs : List Job} {s : State} {k : JobClass} {j : Job} :
    j ∈ (posted jobs s).arbiter.queues.get k ↔ j ∈ s.arbiter.queues.get k ∨
      (k = .hotFill ∧ j ∈ jobs.take (64 - s.arbiter.queues.hotFill.length)) := by
  cases k <;> simp [posted, PerClass.get]

/-- Postings of fills name no chunk but their own. -/
theorem chunkJobNames_posted {jobs : List Job} {s : State} {c : Nat} (h : ∀ j ∈ jobs, j.target ≠ .chunk c) :
    chunkJobNames (posted jobs s) c = chunkJobNames s c := by
  rw [Bool.eq_iff_iff, chunkJobNames_iff, chunkJobNames_iff]
  constructor
  · rintro ⟨k, j, hj | hj, hfill, hc⟩
    · rcases mem_queues_posted.mp hj with hj | ⟨_, hj⟩
      · exact ⟨k, j, .inl hj, hfill, hc⟩
      · exact absurd hc (h j (List.mem_of_mem_take hj))
    · exact ⟨k, j, .inr hj, hfill, hc⟩
  · rintro ⟨k, j, hj | hj, hfill, hc⟩
    · exact ⟨k, j, .inl (mem_queues_posted.mpr (.inl hj)), hfill, hc⟩
    · exact ⟨k, j, .inr hj, hfill, hc⟩

theorem isDuplicate_posted {jobs : List Job} {s : State} {c : Nat} (h : ∀ j ∈ jobs, j.target ≠ .chunk c) :
    isDuplicate (posted jobs s) ⟨.fill, .chunk c⟩ = isDuplicate s ⟨.fill, .chunk c⟩ := by
  have hnames := chunkJobNames_posted h (s := s)
  have hbound : boundSlotQueued (posted jobs s) c = boundSlotQueued s c := rfl
  simp only [isDuplicate, duplicateFill, hnames, hbound, bne_self_eq_false, Bool.false_and, Bool.or_false]

theorem posted_snoc_full {jobs : List Job} {s : State} (j : Job)
    (h : 64 - s.arbiter.queues.hotFill.length ≤ jobs.length) :
    posted (jobs ++ [j]) s = setFlag .jobDropped (posted jobs s) := by
  have hover : 64 - s.arbiter.queues.hotFill.length < (jobs ++ [j]).length := by
    rw [List.length_append, List.length_singleton]
    omega
  have hflag : (setFlag .jobDropped (posted jobs s)).sup = (setFlag .jobDropped s).sup := by
    by_cases hlt : 64 - s.arbiter.queues.hotFill.length < jobs.length
    · have hset : (posted jobs s).sup = (setFlag .jobDropped s).sup := if_pos hlt
      rw [setFlag_sup_congr hset, setFlag_twice]
    · exact setFlag_sup_congr (if_neg hlt)
  calc posted (jobs ++ [j]) s = { posted jobs s with sup := (setFlag .jobDropped s).sup } := by
        rw [posted, if_pos hover, List.take_append_of_le_length h]
        rfl
    _ = setFlag .jobDropped (posted jobs s) := by
        rw [← hflag]
        rfl

theorem posted_snoc_room {jobs : List Job} {s : State} (j : Job)
    (h : jobs.length < 64 - s.arbiter.queues.hotFill.length) :
    posted (jobs ++ [j]) s = { posted jobs s with arbiter := { (posted jobs s).arbiter with
      queues := (posted jobs s).arbiter.queues.set .hotFill ((posted jobs s).arbiter.queues.get .hotFill ++ [j]) } } := by
  have hlength : (jobs ++ [j]).length = jobs.length + 1 := by rw [List.length_append, List.length_singleton]
  have hover : ¬ 64 - s.arbiter.queues.hotFill.length < (jobs ++ [j]).length := by omega
  have hbefore : ¬ 64 - s.arbiter.queues.hotFill.length < jobs.length := by omega
  have htake : (jobs ++ [j]).take (64 - s.arbiter.queues.hotFill.length) = jobs ++ [j] :=
    List.take_of_length_le (by omega)
  have htake' : jobs.take (64 - s.arbiter.queues.hotFill.length) = jobs := List.take_of_length_le (by omega)
  simp only [posted, if_neg hover, if_neg hbefore, htake, htake', PerClass.get, PerClass.set, List.append_assoc]

/-- One more posting joins those made: at the end of the queue, or dropped with JOB_DROPPED (R115). -/
theorem post_posted {jobs : List Job} {s : State} {c : Nat} (hmode : s.sup.mode ≠ .loading)
    (hc : ∀ j ∈ jobs, j.target ≠ .chunk c) (hdup : isDuplicate s ⟨.fill, .chunk c⟩ = false) :
    post .hotFill ⟨.fill, .chunk c⟩ (posted jobs s) = posted (jobs ++ [⟨.fill, .chunk c⟩]) s := by
  have hmode' : ¬ (posted jobs s).sup.mode = .loading := by
    have hm : (posted jobs s).sup.mode = s.sup.mode := by simp only [posted]; split <;> rfl
    rwa [hm]
  have hdup' : ¬ isDuplicate (posted jobs s) ⟨.fill, .chunk c⟩ = true := by simp [isDuplicate_posted hc, hdup]
  have hfull : queueFull (posted jobs s) .hotFill = true ↔ 64 - s.arbiter.queues.hotFill.length ≤ jobs.length := by
    simp only [queueFull, queueDepth, posted, PerClass.get, JobClass.capacity, List.length_append, List.length_take,
      decide_eq_true_eq]
    omega
  rw [post, if_neg hmode', if_neg hdup']
  split
  next h => exact (posted_snoc_full _ (hfull.mp h)).symm
  next h => exact (posted_snoc_room _ (Nat.lt_of_not_le fun hle => h (hfull.mpr hle))).symm

/-- The fills that a list of chunk positions asks for. -/
def fillsAt (region : Nat) (ps : List Nat) (s : State) : List Job :=
  ((ps.map (fun p => 8 * region + p)).filter (fun c => needsHotFill s c && !isDuplicate s ⟨.fill, .chunk c⟩)).map
    (fun c => ⟨.fill, .chunk c⟩)

theorem hotFills_eq (region : Nat) (positions : ChunkSet) (s : State) :
    hotFills region positions s = fillsAt region (positionsOf positions) s := rfl

theorem fillsAt_snoc (region p : Nat) (ps : List Nat) (s : State) : fillsAt region (ps ++ [p]) s =
    fillsAt region ps s ++ (if needsHotFill s (8 * region + p) && !isDuplicate s ⟨.fill, .chunk (8 * region + p)⟩ then
      [⟨.fill, .chunk (8 * region + p)⟩] else []) := by
  simp only [fillsAt, List.map_append, List.filter_append, List.map_cons, List.map_nil, List.filter_cons, List.filter_nil]
  split <;> rfl

theorem foldl_postHotFill {region : Nat} {s : State} (hmode : s.sup.mode ≠ .loading) {ps : List Nat} (hps : ps.Nodup) :
    ps.foldl (fun t p => postHotFill (8 * region + p) t) s = posted (fillsAt region ps s) s := by
  obtain ⟨qs, rfl⟩ : ∃ qs : List Nat, ps = qs.reverse := ⟨ps.reverse, (List.reverse_reverse ps).symm⟩
  induction qs with
  | nil => exact (posted_nil s).symm
  | cons p qs ih =>
    rw [List.reverse_cons] at hps ⊢
    generalize qs.reverse = ps at hps ih ⊢
    obtain ⟨hps, _, hnew⟩ := List.nodup_append.mp hps
    have hneeds : needsHotFill (posted (fillsAt region ps s) s) (8 * region + p) = needsHotFill s (8 * region + p) := rfl
    have hfresh : ∀ j ∈ fillsAt region ps s, j.target ≠ .chunk (8 * region + p) := by
      intro j hj
      obtain ⟨c, hc, rfl⟩ := List.mem_map.mp hj
      obtain ⟨q, hq, rfl⟩ := List.mem_map.mp (List.mem_filter.mp hc).1
      have hne : q ≠ p := hnew q hq p List.mem_cons_self
      intro heq
      injection heq with heq
      omega
    rw [List.foldl_append, ih hps, List.foldl_cons, List.foldl_nil, fillsAt_snoc, postHotFill, hneeds]
    cases needsHotFill s (8 * region + p) with
    | false => simp
    | true =>
      cases hdup : isDuplicate s ⟨.fill, .chunk (8 * region + p)⟩ with
      | false => simpa [hdup] using post_posted hmode hfresh hdup
      | true =>
        have hdrop : post .hotFill ⟨.fill, .chunk (8 * region + p)⟩ (posted (fillsAt region ps s) s) =
            posted (fillsAt region ps s) s := by
          rw [post, isDuplicate_posted hfresh, hdup]
          simp
        simpa [hdup] using hdrop

/-- The Hot-Fills of chunk positions, posted in ascending order (R34, R40, R115). -/
theorem postHotFills_eq {region : Nat} {positions : ChunkSet} {s : State} (hmode : s.sup.mode ≠ .loading) :
    postHotFills region positions s = posted (hotFills region positions s) s :=
  foldl_postHotFill hmode (List.nodup_range.filter _)

/-! ### Demotion hints (R38, R42) -/

theorem recount_same (n : Nat) (b : Bool) : recount n b b = n := Nat.add_sub_cancel _ _

theorem putSlot_map_eq {i : Nat} {r old : SlotRec} {s : State} (h : s.map.slots[i]? = some old) :
    (putSlot i r s).map = s.map.put i old r := by
  rw [putSlot, h]
  dsimp only
  split <;> simp

theorem putSlot_absent {i : Nat} {r : SlotRec} {s : State} (h : s.map.slots[i]? = none) : putSlot i r s = s := by
  rw [putSlot, h]

/-- A slot record that loses its referenced flag, where a hint meets it. -/
def unreferencedIf (b : Bool) (r : SlotRec) : SlotRec := if b then { r with referenced := false } else r

theorem unreferencedIf_twice (a b : Bool) (r : SlotRec) :
    unreferencedIf b (unreferencedIf a r) = unreferencedIf (a || b) r := by cases a <;> cases b <;> rfl

/-- A map whose slots bound to some of the chunks lose their referenced flag. -/
def hintedAt (region : Nat) (ps : List Nat) (m : ResidencyMap) : ResidencyMap :=
  { m with slots := m.slots.mapIdx (fun i => unreferencedIf (ps.any (fun p => m.slotOf (8 * region + p) == some i))) }

theorem hintedAt_eq {region : Nat} {ps : List Nat} {m : ResidencyMap} {l : List SlotRec}
    (h : ∀ k, l[k]? = (m.slots[k]?).map (unreferencedIf (ps.any (fun p => m.slotOf (8 * region + p) == some k)))) :
    hintedAt region ps m = { m with slots := l } := by
  have hl : l = m.slots.mapIdx (fun i => unreferencedIf (ps.any (fun p => m.slotOf (8 * region + p) == some i))) :=
    List.ext_getElem? fun k => by rw [h, List.getElem?_mapIdx]
  rw [hintedAt, hl]

theorem hintChunk_map_eq (region p : Nat) (s : State) :
    (hintChunk (8 * region + p) s).map = hintedAt region [p] s.map := by
  unfold hintChunk
  cases hslot : s.map.slotOf (8 * region + p) with
  | none =>
    refine (hintedAt_eq (l := s.map.slots) fun k => ?_).symm
    cases s.map.slots[k]? <;> simp [hslot, unreferencedIf]
  | some i =>
    dsimp only
    rw [modifySlot]
    cases hold : s.map.slots[i]? with
    | none =>
      rw [putSlot_absent hold]
      refine (hintedAt_eq (l := s.map.slots) fun k => ?_).symm
      by_cases hk : i = k
      · rw [← hk, hold]
        rfl
      · cases s.map.slots[k]? <;> simp [hslot, unreferencedIf, hk]
    | some old =>
      have hnow : s.slot i = old := by rw [State.slot, hold]; rfl
      have hput : s.map.put i old { old with referenced := false } =
          { s.map with slots := s.map.slots.set i { old with referenced := false } } := by
        rw [ResidencyMap.put]
        simp only [SlotRec.isFree, SlotRec.isDirty, SlotRec.countsPinned, recount_same, reindex, if_true]
      rw [putSlot_map_eq hold, hnow, hput]
      refine (hintedAt_eq fun k => ?_).symm
      rw [List.getElem?_set]
      by_cases hk : i = k
      · subst hk
        rw [if_pos rfl, if_pos (List.getElem?_eq_some_iff.mp hold).1, hold]
        simp [hslot, unreferencedIf]
      · rw [if_neg hk]
        cases s.map.slots[k]? <;> simp [hslot, unreferencedIf, hk]

theorem hintedAt_cons (region p : Nat) (ps : List Nat) (m : ResidencyMap) :
    hintedAt region ps (hintedAt region [p] m) = hintedAt region (p :: ps) m := by
  refine ((hintedAt_eq (region := region) (ps := p :: ps) (m := m)
    (l := (hintedAt region ps (hintedAt region [p] m)).slots) fun k => ?_).trans rfl).symm
  simp only [hintedAt, List.getElem?_mapIdx, Option.map_map]
  refine congrArg (Option.map · _) (funext fun r => ?_)
  rw [Function.comp_apply, unreferencedIf_twice, List.any_cons, List.any_cons, List.any_nil, Bool.or_false]
  rfl

theorem demotionHint_map_eq (region : Nat) (touched : ChunkSet) (s : State) :
    (demotionHint region touched s).map = hinted region touched s.map := by
  have hfold : ∀ (ps : List Nat) (u : State), (ps.foldl (fun t p => hintChunk (8 * region + p) t) u).map =
      hintedAt region ps u.map := by
    intro ps
    induction ps with
    | nil =>
      intro u
      rw [List.foldl_nil]
      refine (hintedAt_eq (l := u.map.slots) fun k => ?_).symm
      cases u.map.slots[k]? <;> rfl
    | cons p ps ih =>
      intro u
      rw [List.foldl_cons, ih, hintChunk_map_eq, hintedAt_cons]
  rw [demotionHint, hfold, hintedAt, hinted, positionsOf]
  simp only [List.any_filter]
  rfl

end Sys2Proof.Machine
end

section
/-! O39, O40. The Heat Unit takes an access, and visits an entry in its sweep. -/

namespace Sys2Proof.Machine

open Sys2Proof.Safety

/-! ### Entries by their index -/

theorem heatEntry_getElem {s : State} {j : Nat} (h : j < s.heat.entries.length) :
    s.heatEntry j = s.heat.entries[j] := by
  rw [State.heatEntry, List.getElem?_eq_getElem h]
  rfl

/-- The region's entry: the first of those with its number. -/
theorem heatIndexOf_first {s : State} {g i : Nat} {e : HeatEntry} (he : s.heatEntry i = some e) (hg : e.region = g)
    (hfirst : ∀ (j : Nat) (f : HeatEntry), j < i → s.heatEntry j = some f → f.region ≠ g) : heatIndexOf s g = some i := by
  have hi := heatEntry_lt he
  rw [heatIndexOf, List.findIdx?_eq_some_iff_getElem]
  refine ⟨hi, ?_, fun j hj => ?_⟩
  · rw [← heatEntry_getElem hi, he]
    simpa using hg
  · have hjl : j < s.heat.entries.length := by omega
    rw [← heatEntry_getElem hjl]
    cases hf : s.heatEntry j with
    | none => simp
    | some f => simpa using hfirst j f hj hf

theorem heatIndexOf_absent {s : State} {g : Nat} (h : ∀ (j : Nat) (f : HeatEntry), s.heatEntry j = some f → f.region ≠ g) :
    heatIndexOf s g = none := by
  rw [heatIndexOf, List.findIdx?_eq_none_iff]
  intro x hx
  obtain ⟨j, hj, rfl⟩ := List.getElem_of_mem hx
  rw [← heatEntry_getElem hj]
  cases hf : s.heatEntry j with
  | none => rfl
  | some f => simpa using h j f hf

theorem lowestUnused_first {s : State} {i : Nat} (hi : s.heat.entries[i]? = some none)
    (hfirst : ∀ j, j < i → s.heatEntry j ≠ none) : lowestUnused s = some i := by
  obtain ⟨hlt, hnone⟩ := List.getElem?_eq_some_iff.mp hi
  rw [lowestUnused, List.findIdx?_eq_some_iff_getElem]
  refine ⟨hlt, by rw [hnone]; rfl, fun j hj => ?_⟩
  have hjl : j < s.heat.entries.length := by omega
  rw [← heatEntry_getElem hjl]
  simpa using hfirst j hj

theorem lowestUnused_full {s : State} (h : ∀ j : Nat, s.heat.entries[j]? ≠ some none) : lowestUnused s = none := by
  rw [lowestUnused, List.findIdx?_eq_none_iff]
  intro x hx
  obtain ⟨j, hj, rfl⟩ := List.getElem_of_mem hx
  have hne := h j
  rw [List.getElem?_eq_getElem hj] at hne
  cases hx : s.heat.entries[j] with
  | none => rw [hx] at hne; exact absurd rfl hne
  | some e => rfl

/-- A written entry, with the counts that follow it (R24, R25). -/
theorem putHeat_eq {s : State} {i : Nat} {old : Option HeatEntry} (new : Option HeatEntry) (h : s.heatEntry i = old) :
    putHeat i new s = { s with heat := { s.heat with
      entries := s.heat.entries.set i new
      usedCount := recount s.heat.usedCount old.isSome new.isSome
      candidateCount := recount s.heat.candidateCount (old.any (·.isCandidate)) (new.any (·.isCandidate)) } } := by
  subst h
  rfl

/-- An entry in use, written with another of the same candidacy: no count changes. -/
theorem putHeat_same {s : State} {i : Nat} {e e' : HeatEntry} (h : s.heatEntry i = some e)
    (hc : e'.isCandidate = e.isCandidate) :
    putHeat i (some e') s = { s with heat := { s.heat with entries := s.heat.entries.set i (some e') } } := by
  rw [putHeat_eq _ h]
  simp only [Option.isSome_some, Option.any_some, hc, recount_same]

/-! ### An access (R31 to R34) -/

theorem touch_eq (e : HeatEntry) (p : Params) (a : Access) : e.touch p a = { e with
    score := if a.cls.scores then min 65535 (e.score + increment p a) else e.score
    touched := if a.cls.scores then e.touched ||| a.positions else e.touched } := by
  unfold HeatEntry.touch
  split <;> rfl

theorem touch_isCandidate (e : HeatEntry) (p : Params) (a : Access) : (e.touch p a).isCandidate = e.isCandidate := by
  rw [touch_eq]
  rfl

theorem scores_iff (k : PlacementClass) : k.scores = decide (k = .normal ∨ k = .boost) := by cases k <;> rfl

/-- An access to a region with an entry (R31, R34). -/
theorem takeAccess_entry {a : Access} {s : State} {i : Nat} {e : HeatEntry} (hindex : heatIndexOf s a.region = some i)
    (he : s.heatEntry i = some e) : takeAccess a s =
      if e.state = .promoted ∧ a.cls.scores then
        postHotFills a.region a.positions
          { s with heat := { s.heat with entries := s.heat.entries.set i (some (e.touch s.params a)) } }
      else { s with heat := { s.heat with entries := s.heat.entries.set i (some (e.touch s.params a)) } } := by
  rw [takeAccess, hindex]
  dsimp only
  rw [he]
  dsimp only
  rw [putHeat_same he (touch_isCandidate e s.params a)]

/-- A scored access to a new region in a table with room (R32). -/
theorem takeAccess_room {a : Access} {s : State} {i : Nat} (hindex : heatIndexOf s a.region = none)
    (hinc : increment s.params a ≠ 0) (hunused : lowestUnused s = some i) (hi : s.heatEntry i = none) :
    takeAccess a s = { s with heat := { s.heat with
      entries := s.heat.entries.set i (some (newHeatEntry s.params a)), usedCount := s.heat.usedCount + 1 } } := by
  have hcandidate : (newHeatEntry s.params a).isCandidate = false := rfl
  rw [takeAccess, hindex]
  dsimp only
  rw [if_neg hinc, hunused]
  dsimp only
  rw [putHeat_eq _ hi]
  simp only [Option.any_none, Option.any_some, hcandidate, recount_same]
  rfl

/-- A scored access to a new region in a full table consults the cold-victim register (R33). -/
theorem takeAccess_full {a : Access} {s : State} (hindex : heatIndexOf s a.region = none)
    (hinc : increment s.params a ≠ 0) (hfull : lowestUnused s = none) : takeAccess a s = overwriteVictim a s := by
  rw [takeAccess, hindex]
  dsimp only
  rw [if_neg hinc, hfull]

theorem overwriteVictim_cold {a : Access} {s : State} {i : Nat} {e : HeatEntry} (hv : s.heat.victim = some i)
    (he : s.heatEntry i = some e) (hstate : e.state = .tracked) (hcold : e.score < s.params.admitBar) :
    overwriteVictim a s = { s with heat := { s.heat with
      entries := s.heat.entries.set i (some (newHeatEntry s.params a)), victim := none } } := by
  have hsame : (newHeatEntry s.params a).isCandidate = e.isCandidate := by
    rw [HeatEntry.isCandidate, HeatEntry.isCandidate, hstate]
    rfl
  rw [overwriteVictim, hv]
  dsimp only
  rw [he]
  dsimp only
  rw [if_pos ⟨hstate, hcold⟩, putHeat_same he hsame]
  rfl

theorem overwriteVictim_warm {a : Access} {s : State} {i : Nat} {e : HeatEntry} (hv : s.heat.victim = some i)
    (he : s.heatEntry i = some e) (hkeep : e.state ≠ .tracked ∨ s.params.admitBar ≤ e.score) :
    overwriteVictim a s = setVictim none s := by
  have hno : ¬ (e.state = .tracked ∧ e.score < s.params.admitBar) := by
    rintro ⟨hstate, hcold⟩
    rcases hkeep with hk | hk
    · exact hk hstate
    · omega
  rw [overwriteVictim, hv]
  dsimp only
  rw [he]
  dsimp only
  rw [if_neg hno]

theorem oldestAccess_cons {s : State} {a : Access} {rest : List Access} (h : s.accesses = a :: rest) : oldestAccess s =
    if s.held .heat then { s with accesses := rest } else takeAccess a { s with accesses := rest } := by
  rw [oldestAccess, h]

/-- Settles O39. -/
theorem accessTaken : Obligations.AccessTaken := by
  unfold Obligations.AccessTaken
  have hexec (s : State) : exec .access s = .next (oldestAccess s) := rfl
  refine ⟨fun s h => by rw [hexec, oldestAccess, h],
    fun s a rest h hheld => by rw [hexec, oldestAccess_cons h, if_pos hheld], ?_⟩
  intro s a rest h hheld weighted inc scored t fresh
  have htake : exec .access s = .next (takeAccess a t) := by
    rw [hexec, oldestAccess_cons h, if_neg (by simp [hheld])]
  have hinc : increment t.params a = inc := rfl
  have hscores : a.cls.scores = scored := scores_iff a.cls
  rw [htake]
  refine ⟨?entry, fun habsent => ?absent⟩
  case entry =>
    intro i e he hg hfirst changed
    have hindex : heatIndexOf t a.region = some i := heatIndexOf_first (s := t) he hg hfirst
    have hchanged : ({ t with heat := { t.heat with
        entries := t.heat.entries.set i (some (e.touch t.params a)) } } : State) = changed := by
      rw [touch_eq, hinc, hscores]
    rw [takeAccess_entry hindex he, hchanged]
    refine ⟨fun hplain => ?_, fun hprom hscored hmode => ?_⟩
    · have hno : ¬ (e.state = .promoted ∧ a.cls.scores = true) := by
        rintro ⟨hprom, hs⟩
        rcases hplain with hp | hp
        · exact hp hprom
        · rw [hscores, hp] at hs
          cases hs
      rw [if_neg hno]
    · rw [if_pos ⟨hprom, hscores.trans hscored⟩, postHotFills_eq (by exact hmode)]
      rfl
  case absent =>
    have hindex : heatIndexOf t a.region = none := heatIndexOf_absent (s := t) habsent
    refine ⟨fun hzero => ?_, fun i hpos hi hfirst => ?_, fun hpos hfull => ⟨fun hnone => ?_,
      fun i e hv he => ⟨fun hst hcold => ?_, fun hkeep => ?_⟩⟩⟩
    · rw [takeAccess, hindex]
      dsimp only
      rw [if_pos (hinc.trans hzero)]
    · have hentry : t.heatEntry i = none := by rw [State.heatEntry]; exact congrArg Option.join hi
      rw [takeAccess_room hindex (hinc ▸ hpos) (lowestUnused_first (s := t) hi hfirst) hentry]
      rfl
    · have hnone : t.heat.victim = none := hnone
      rw [takeAccess_full hindex (hinc ▸ hpos) (lowestUnused_full (s := t) hfull), overwriteVictim, hnone]
    · rw [takeAccess_full hindex (hinc ▸ hpos) (lowestUnused_full (s := t) hfull),
        overwriteVictim_cold (s := t) hv he hst hcold]
      rfl
    · rw [takeAccess_full hindex (hinc ▸ hpos) (lowestUnused_full (s := t) hfull),
        overwriteVictim_warm (s := t) hv he hkeep]
      rfl

/-! ### A sweep visit (R36 to R43) -/

theorem decayed_eq (k score : Nat) : decayed k score = score - max 1 (score / 2 ^ k) := by
  unfold decayed
  generalize score / 2 ^ k = b
  split <;> omega

theorem hotFills_congr {region : Nat} {positions : ChunkSet} {s u : State} (harbiter : u.arbiter = s.arbiter)
    (hmap : u.map = s.map) (hranges : u.ranges = s.ranges) : hotFills region positions u = hotFills region positions s := by
  have hneeds (c : Nat) : needsHotFill u c = needsHotFill s c := by simp only [needsHotFill, chunkIn, hmap, hranges]
  have hdup (c : Nat) : isDuplicate u ⟨.fill, .chunk c⟩ = isDuplicate s ⟨.fill, .chunk c⟩ := by
    simp only [isDuplicate, duplicateFill, chunkJobNames, allJobs, boundSlotQueued, bne_self_eq_false, Bool.false_and,
      harbiter, hmap]
  simp only [hotFills, hneeds, hdup]

/-- Postings made within an event that has changed nothing they look at. -/
theorem postHotFills_within {region : Nat} {positions : ChunkSet} {s u : State} (harbiter : u.arbiter = s.arbiter)
    (hmap : u.map = s.map) (hranges : u.ranges = s.ranges) (hsup : u.sup = s.sup) (hmode : s.sup.mode ≠ .loading) :
    (postHotFills region positions u).arbiter = (posted (hotFills region positions s) s).arbiter ∧
    (postHotFills region positions u).sup = (posted (hotFills region positions s) s).sup ∧
    (postHotFills region positions u).map = s.map := by
  rw [postHotFills_eq (hsup ▸ hmode), hotFills_congr harbiter hmap hranges]
  simp only [posted, harbiter, hmap, hsup, setFlag_sup_congr hsup, and_self]

theorem isCandidate_toNat (e : HeatEntry) : e.isCandidate.toNat = if e.state = .candidate then 1 else 0 := by
  unfold HeatEntry.isCandidate
  cases e.state <;> rfl

/-- An entry that the sweep releases at score 0, with its demotion hint (R38, R42). -/
theorem visitEntry_released {i : Nat} {e : HeatEntry} {s : State} (he : s.heatEntry i = some e)
    (hzero : decayed s.params.decayShift e.score = 0) : (visitEntry i e s).arbiter = s.arbiter ∧
      (visitEntry i e s).sup = s.sup ∧ (visitEntry i e s).map = hinted e.region e.touched s.map ∧
      (visitEntry i e s).heat = { s.heat with
        entries := s.heat.entries.set i none
        usedCount := s.heat.usedCount - 1
        candidateCount := s.heat.candidateCount - (if e.state = .candidate then 1 else 0)
        victim := if s.heat.victim = some i then none else s.heat.victim } := by
  have hheat : (demotionHint e.region e.touched s).heat = s.heat := by simp
  have hentry : (demotionHint e.region e.touched s).heatEntry i = some e := by rw [State.heatEntry, hheat]; exact he
  have hcounts : (putHeat i none (demotionHint e.region e.touched s)).heat = { s.heat with
      entries := s.heat.entries.set i none
      usedCount := s.heat.usedCount - 1
      candidateCount := s.heat.candidateCount - (if e.state = .candidate then 1 else 0) } := by
    rw [putHeat_eq _ hentry, hheat, ← isCandidate_toNat]
    rfl
  have hvisit : visitEntry i e s = if s.heat.victim = some i then
      setVictim none (putHeat i none (demotionHint e.region e.touched s))
    else putHeat i none (demotionHint e.region e.touched s) := by
    rw [visitEntry]
    exact if_pos hzero
  rw [hvisit]
  by_cases hv : s.heat.victim = some i
  · rw [if_pos hv, if_pos hv, setVictim]
    refine ⟨by simp, by simp, by simp [demotionHint_map_eq], ?_⟩
    rw [hcounts]
  · rw [if_neg hv, if_neg hv]
    exact ⟨by simp, by simp, by simp [demotionHint_map_eq], hcounts⟩

/-- The cold-victim register after the visit of entry `i`, now `f` (R43). -/
def nextVictim (i : Nat) (f : HeatEntry) (u : State) : Option Nat :=
  if f.state = .tracked ∧ u.heat.victim.all (fun j => (u.heatEntry j).any (fun w => f.score < w.score)) = true then some i
  else u.heat.victim

theorem updateVictim_heat (i : Nat) (f : HeatEntry) (u : State) :
    (updateVictim i f u).heat = { u.heat with victim := nextVictim i f u } := by
  unfold updateVictim nextVictim
  by_cases hst : f.state = .tracked
  · rw [if_pos hst]
    cases hv : u.heat.victim with
    | none => simp [hst, setVictim]
    | some j =>
      dsimp only
      by_cases hcold : (u.heatEntry j).any (fun w => f.score < w.score) = true
      · rw [if_pos hcold, if_pos ⟨hst, by simpa using hcold⟩]
        rfl
      · rw [if_neg hcold, if_neg (fun hc => hcold (by simpa using hc.2)), ← hv]
  · rw [if_neg hst, if_neg (fun hc => hst hc.1)]

theorem nextVictim_congr {i : Nat} {f : HeatEntry} {u v : State} (h : u.heat = v.heat) :
    nextVictim i f u = nextVictim i f v := by
  unfold nextVictim State.heatEntry
  rw [h]

/-- The visit up to the Hot-Fill postings of a confirmation (R39, R40); the hint and the register come after it. -/
theorem visitEntry_posted {i : Nat} {e f : HeatEntry} {promoted refused : Bool} {s : State}
    (hpos : decayed s.params.decayShift e.score ≠ 0)
    (hjudged : judgeEntry s { e with score := decayed s.params.decayShift e.score } = (f, promoted, refused))
    (hone : refused = true → promoted = false) : ∃ P : State,
    visitEntry i e s = updateVictim i f
      (if f.state = .tracked ∧ f.score < s.params.td then demotionHint e.region e.touched P else P) ∧
    P.arbiter = (posted (if promoted = true ∧ s.sup.mode = .online then hotFills e.region e.touched s else []) s).arbiter ∧
    P.sup = (if refused then (setFlag .candidateFull s).sup else
      (posted (if promoted = true ∧ s.sup.mode = .online then hotFills e.region e.touched s else []) s).sup) ∧
    P.map = s.map ∧ P.heat = (putHeat i (some f) s).heat := by
  have hvisit : visitEntry i e s = updateVictim i f
      (if f.state = .tracked ∧ f.score < s.params.td then demotionHint e.region e.touched
          (if promoted = true ∧ s.sup.mode = .online then postHotFills e.region e.touched
            (if refused = true then setFlag .candidateFull (putHeat i (some f) s) else putHeat i (some f) s)
          else if refused = true then setFlag .candidateFull (putHeat i (some f) s) else putHeat i (some f) s)
        else if promoted = true ∧ s.sup.mode = .online then postHotFills e.region e.touched
            (if refused = true then setFlag .candidateFull (putHeat i (some f) s) else putHeat i (some f) s)
          else if refused = true then setFlag .candidateFull (putHeat i (some f) s) else putHeat i (some f) s) := by
    rw [visitEntry]
    simp only [if_neg hpos, hjudged]
  refine ⟨_, hvisit, ?_⟩
  by_cases hpost : promoted = true ∧ s.sup.mode = .online
  · have hkept : ¬ refused = true := fun hr => by
      have hp := hone hr
      rw [hpost.1] at hp
      cases hp
    obtain ⟨harbiter, hsup, hmap⟩ := postHotFills_within (region := e.region) (positions := e.touched) (s := s)
      (u := putHeat i (some f) s) rfl rfl rfl rfl (by rw [hpost.2]; simp)
    rw [if_pos hpost, if_pos hpost, if_neg hkept, if_neg hkept]
    exact ⟨harbiter, hsup, hmap, by simp⟩
  · rw [if_neg hpost, if_neg hpost, posted_nil]
    cases refused <;> exact ⟨rfl, rfl, rfl, rfl⟩

/-- A visit of an entry that stays in use, from what the judgement of its new score gives (R39 to R43). -/
theorem visitEntry_kept {i : Nat} {e f : HeatEntry} {promoted refused : Bool} {s : State} (he : s.heatEntry i = some e)
    (hpos : decayed s.params.decayShift e.score ≠ 0)
    (hjudged : judgeEntry s { e with score := decayed s.params.decayShift e.score } = (f, promoted, refused))
    (hone : refused = true → promoted = false) :
    (visitEntry i e s).arbiter =
      (posted (if promoted = true ∧ s.sup.mode = .online then hotFills e.region e.touched s else []) s).arbiter ∧
    (visitEntry i e s).sup = (if refused then (setFlag .candidateFull s).sup else
      (posted (if promoted = true ∧ s.sup.mode = .online then hotFills e.region e.touched s else []) s).sup) ∧
    (visitEntry i e s).map = (if f.state = .tracked ∧ f.score < s.params.td then hinted e.region e.touched s.map
      else s.map) ∧
    (visitEntry i e s).heat = { s.heat with
      entries := s.heat.entries.set i (some f)
      candidateCount := recount s.heat.candidateCount e.isCandidate f.isCandidate
      victim := nextVictim i f (putHeat i (some f) s) } := by
  have hstored : (putHeat i (some f) s).heat = { s.heat with
      entries := s.heat.entries.set i (some f)
      candidateCount := recount s.heat.candidateCount e.isCandidate f.isCandidate } := by
    rw [putHeat_eq _ he]
    simp only [Option.isSome_some, Option.any_some, recount_same]
  obtain ⟨P, hvisit, harbiter, hsup, hmap, hheat⟩ :=
    visitEntry_posted (s := s) (i := i) (e := e) hpos hjudged hone
  rw [hvisit]
  by_cases hhint : f.state = .tracked ∧ f.score < s.params.td
  · rw [if_pos hhint, if_pos hhint]
    refine ⟨by simp [harbiter], by simp [hsup], by simp [demotionHint_map_eq, hmap], ?_⟩
    rw [updateVictim_heat, nextVictim_congr (v := putHeat i (some f) s) (by simp [hheat])]
    simp [hheat, hstored]
  · rw [if_neg hhint, if_neg hhint]
    refine ⟨by simp [harbiter], by simp [hsup], by simp [hmap], ?_⟩
    rw [updateVictim_heat, nextVictim_congr (v := putHeat i (some f) s) hheat, hheat, hstored]

/-- The state of an entry whose score has decayed to `v` (R39 to R41). -/
def nextState (s : State) (e : HeatEntry) (v : Nat) : HeatState :=
  match e.state with
  | .tracked => if s.params.tp ≤ v ∧ s.heat.candidateCount < candidateLimit s then .candidate else .tracked
  | .candidate =>
    if s.params.tp ≤ v then (if confirmDepthOf s e.region ≤ e.confirm + 1 then .promoted else .candidate) else .tracked
  | .promoted => if v < s.params.td then .tracked else .promoted

/-- The confirm count that goes with the next state: it rises in candidacy and restarts at a candidacy's ends. -/
def nextConfirm (e : HeatEntry) (st : HeatState) : Nat :=
  match e.state, st with
  | .candidate, .candidate => e.confirm + 1
  | .candidate, _ => 0
  | .tracked, .candidate => 0
  | _, _ => e.confirm

theorem judgeEntry_eq (s : State) (e : HeatEntry) (v : Nat) : judgeEntry s { e with score := v } =
    ({ e with score := v, state := nextState s e v, confirm := nextConfirm e (nextState s e v) },
      decide (e.state = .candidate ∧ nextState s e v = .promoted),
      decide (e.state = .tracked ∧ s.params.tp ≤ v ∧ candidateLimit s ≤ s.heat.candidateCount)) := by
  obtain ⟨region, score, state, confirm, touched⟩ := e
  cases state with
  | tracked =>
    by_cases htp : s.params.tp ≤ v
    · by_cases hroom : s.heat.candidateCount < candidateLimit s
      · simp [judgeEntry, nextState, nextConfirm, htp, hroom]
      · simp [judgeEntry, nextState, nextConfirm, htp, hroom, Nat.le_of_not_lt hroom]
    · simp [judgeEntry, nextState, nextConfirm, htp]
  | candidate =>
    by_cases htp : s.params.tp ≤ v
    · by_cases hdepth : confirmDepthOf s region ≤ confirm + 1
      · simp [judgeEntry, nextState, nextConfirm, htp, hdepth]
      · simp [judgeEntry, nextState, nextConfirm, htp, hdepth]
    · simp [judgeEntry, nextState, nextConfirm, htp]
  | promoted =>
    by_cases htd : v < s.params.td
    · simp [judgeEntry, nextState, nextConfirm, htd]
    · simp [judgeEntry, nextState, nextConfirm, htd]

/-- The register after the visit, on the entries as they stood before it: the visited entry is not colder than itself. -/
theorem nextVictim_put {i : Nat} {e f : HeatEntry} {s : State} (he : s.heatEntry i = some e) :
    nextVictim i f (putHeat i (some f) s) = if f.state = .tracked then
      s.heat.victim.elim (some i) (fun j =>
        if decide (j ≠ i ∧ (s.heatEntry j).any (fun w => f.score < w.score) = true) = true then some i else some j)
    else s.heat.victim := by
  have hentry (j : Nat) : (putHeat i (some f) s).heatEntry j = if j = i then some f else s.heatEntry j := by
    have hi := heatEntry_lt he
    rw [State.heatEntry, putHeat_eq _ he]
    simp only [List.getElem?_set]
    by_cases hj : j = i
    · simp [hj, hi]
    · simp [hj, Ne.symm hj, State.heatEntry]
  have hvictim : (putHeat i (some f) s).heat.victim = s.heat.victim := rfl
  unfold nextVictim
  rw [hvictim]
  by_cases hst : f.state = .tracked
  · cases hv : s.heat.victim with
    | none => simp [hst]
    | some j =>
      simp only [hst, true_and, if_true, Option.all_some, hentry, Option.elim_some]
      by_cases hj : j = i <;> simp [hj]
  · simp [hst]

/-- Settles O40. -/
theorem sweepVisit : Obligations.SweepVisit := by
  unfold Obligations.SweepVisit
  intro s i next c tick others
  have hexec : exec .sweepVisit s = .next (if s.heat.tick.isSome then sweep s else s) := rfl
  have hnext : (if s.heat.sweep + 1 < Config.heatEntries then s.heat.sweep + 1 else 0) = next := by
    have hlast : s.heat.sweep + 1 < Config.heatEntries ↔ s.heat.sweep < 1023 := by
      simp only [Config.heatEntries]
      omega
    simp only [hlast]
    rfl
  refine ⟨fun hnone => by rw [hexec, if_neg (by simp [hnone])], fun hsome => ?_⟩
  have hsweep : exec .sweepVisit s = .next (sweep s) := by
    rw [hexec, if_pos (by rwa [Option.isSome_iff_ne_none])]
  have hothers : others (sweep s) := by simp [others]
  rw [hsweep]
  refine ⟨fun hempty => ?empty, fun e he => ⟨fun hzero => ?released, ?visited⟩⟩
  case empty =>
    have hempty : s.heatEntry s.heat.sweep = none := hempty
    rw [sweep, hnext, hempty]
    rfl
  all_goals
    have hstep : sweep s = { visitEntry i e s with
        heat := { (visitEntry i e s).heat with sweep := next, tick := tick } } := by
      have he : s.heatEntry s.heat.sweep = some e := he
      rw [sweep, hnext, he]
      rfl
    have hdecayed := decayed_eq s.params.decayShift e.score
  case released =>
    obtain ⟨harbiter, hsup, hmap, hheat⟩ := visitEntry_released he (hdecayed.trans hzero)
    refine ⟨_, rfl, hothers, ?_⟩
    rw [hstep, hheat]
    exact ⟨harbiter, hsup, hmap, rfl⟩
  case visited =>
    intro hpos limit depth st confirm jobs refused colder
    have hlimit : candidateLimit s = limit := by
      simp only [limit, candidateLimit]
      cases s.params.candidateMode <;> rfl
    have hst : nextState s e (decayed s.params.decayShift e.score) = st := by
      rw [hdecayed, nextState, hlimit]
      rfl
    have hconfirm : nextConfirm e st = confirm := rfl
    have hjudged := judgeEntry_eq s e (decayed s.params.decayShift e.score)
    rw [hst, hconfirm] at hjudged
    have hone : decide (e.state = .tracked ∧ s.params.tp ≤ decayed s.params.decayShift e.score ∧
        candidateLimit s ≤ s.heat.candidateCount) = true → decide (e.state = .candidate ∧ st = .promoted) = false := by
      intro hr
      have htracked : e.state = .tracked := (decide_eq_true_eq.mp hr).1
      simp [htracked]
    obtain ⟨harbiter, hsup, hmap, hheat⟩ := visitEntry_kept he (hdecayed ▸ hpos) hjudged hone
    have hjobs : (if decide (e.state = .candidate ∧ st = .promoted) = true ∧ s.sup.mode = .online then
        hotFills e.region e.touched s else []) = jobs := by
      simp only [decide_eq_true_eq, and_assoc]
      rfl
    have hrefused : decide (e.state = .tracked ∧ s.params.tp ≤ decayed s.params.decayShift e.score ∧
        candidateLimit s ≤ s.heat.candidateCount) = refused := by
      rw [hdecayed, hlimit]
    rw [hjobs] at harbiter hsup
    rw [hrefused] at hsup
    refine ⟨_, rfl, hothers, ?_⟩
    rw [hstep]
    refine ⟨harbiter, hsup, ?_, ?_⟩
    · rw [hdecayed] at hmap
      exact hmap
    · rw [hheat, nextVictim_put he, recount, isCandidate_toNat, isCandidate_toNat, hdecayed]
      cases hv : s.heat.victim <;> rfl

end Sys2Proof.Machine
end

section
/-! O41, O42, O54. The retag walk, the Pin Scanner's examination and the Reclaimer's. -/

namespace Sys2Proof.Machine

open Sys2Proof.Safety

/-! ### The retag walk (R55, R57) -/

/-- The PIN entry that an element of the indexed table holds. -/
def pinAt (x : Option RangeEntry × Nat) : Option (Nat × RangeEntry) :=
  x.1.bind (fun r => if r.cls = .pin then some (x.2, r) else none)

theorem pinAt_eq_some {a : Option RangeEntry} {i k : Nat} {e : RangeEntry} :
    pinAt (a, i) = some (k, e) ↔ i = k ∧ a = some e ∧ e.cls = .pin := by
  cases a with
  | none => simp [pinAt]
  | some r =>
    by_cases hr : r.cls = .pin
    · simp only [pinAt, Option.bind_some, if_pos hr, Option.some.injEq, Prod.mk.injEq]
      exact ⟨fun ⟨hk, he⟩ => ⟨hk, he, he ▸ hr⟩, fun ⟨hk, he, _⟩ => ⟨hk, he⟩⟩
    · simp only [pinAt, Option.bind_some, if_neg hr, Option.some.injEq, reduceCtorEq, false_iff]
      exact fun ⟨_, he, hpin⟩ => hr (he ▸ hpin)

theorem pinAt_eq_none {a : Option RangeEntry} {i : Nat} : pinAt (a, i) = none ↔ ∀ q, a = some q → q.cls ≠ .pin := by
  cases a with
  | none => simp [pinAt]
  | some r => by_cases hr : r.cls = .pin <;> simp [pinAt, hr]

/-- The lowest-indexed PIN entry of a table whose first entry has index `i` (R52, R59). -/
theorem findSome_pinAt {k : Nat} {e : RangeEntry} : ∀ {l : List (Option RangeEntry)} {i : Nat},
    (l.zipIdx i).findSome? pinAt = some (k, e) ↔ i ≤ k ∧ l[k - i]? = some (some e) ∧ e.cls = .pin ∧
      ∀ j q, i ≤ j → j < k → l[j - i]? = some (some q) → q.cls ≠ .pin
  | [], i => by simp
  | a :: l, i => by
    rw [List.zipIdx_cons, List.findSome?_cons]
    cases hfirst : pinAt (a, i) with
    | some x =>
      obtain ⟨k', e'⟩ := x
      obtain ⟨rfl, rfl, hpin⟩ := pinAt_eq_some.mp hfirst
      constructor
      · intro heq
        cases heq
        refine ⟨Nat.le_refl _, by simp, hpin, fun j q hle hlt => absurd hlt (Nat.not_lt_of_le hle)⟩
      · rintro ⟨hle, hk, _, hleast⟩
        rcases Nat.eq_or_lt_of_le hle with rfl | hlt
        · simp at hk
          rw [hk]
        · exact absurd hpin (hleast i e' (Nat.le_refl _) hlt (by simp))
    | none =>
      have hno := pinAt_eq_none.mp hfirst
      have hshift {j : Nat} (hj : i + 1 ≤ j) : (a :: l)[j - i]? = l[j - (i + 1)]? := by
        rw [show j - i = j - (i + 1) + 1 by omega, List.getElem?_cons_succ]
      dsimp only
      rw [findSome_pinAt (l := l) (i := i + 1)]
      constructor
      · rintro ⟨hle, hk, hpin, hleast⟩
        refine ⟨by omega, by rw [hshift hle, hk], hpin, fun j q hj hlt hq => ?_⟩
        rcases Nat.eq_or_lt_of_le hj with rfl | hj
        · exact hno q (by simpa using hq)
        · exact hleast j q hj hlt (by rwa [hshift hj] at hq)
      · rintro ⟨hle, hk, hpin, hleast⟩
        rcases Nat.eq_or_lt_of_le hle with rfl | hlt
        · exact absurd hpin (hno e (by simpa using hk))
        · refine ⟨hlt, by rwa [hshift hlt] at hk, hpin, fun j q hj hjk hq => ?_⟩
          exact hleast j q (by omega) hjk (by rwa [hshift hj])

theorem pinEntryFrom_iff {s : State} {i k : Nat} {e : RangeEntry} : pinEntryFrom s i = some (k, e) ↔
    i ≤ k ∧ s.ranges[k]? = some (some e) ∧ e.cls = .pin ∧
      ∀ j q, i ≤ j → j < k → s.ranges[j]? = some (some q) → q.cls ≠ .pin := by
  have hdrop : s.ranges.zipIdx.drop i = (s.ranges.drop i).zipIdx i := by
    refine List.ext_getElem? fun j => ?_
    simp [List.getElem?_drop, List.getElem?_zipIdx]
  have hfind : pinEntryFrom s i = ((s.ranges.drop i).zipIdx i).findSome? pinAt := by
    rw [pinEntryFrom, hdrop]
    rfl
  have hshift {j : Nat} (hj : i ≤ j) : (s.ranges.drop i)[j - i]? = s.ranges[j]? := by
    rw [List.getElem?_drop, show i + (j - i) = j by omega]
  rw [hfind, findSome_pinAt]
  constructor
  · rintro ⟨hle, hk, hpin, hleast⟩
    exact ⟨hle, by rwa [hshift hle] at hk, hpin, fun j q hj hjk hq => hleast j q hj hjk (by rwa [hshift hj])⟩
  · rintro ⟨hle, hk, hpin, hleast⟩
    exact ⟨hle, by rwa [hshift hle], hpin, fun j q hj hjk hq => hleast j q hj hjk (by rwa [hshift hj] at hq)⟩

theorem retag_eq (i : Nat) (s : State) : retag i s = ((s.slot i).chunk.elim s fun c =>
    if (s.slot i).state = .free then s
    else putSlot i { s.slot i with
      pinned := chunkIn s .pin c, referenced := (s.slot i).referenced && !chunkIn s .bypass c } s) := by
  unfold retag
  cases hc : (s.slot i).chunk <;> cases hst : (s.slot i).state <;> simp [hc, hst]

theorem retag_kept (i : Nat) (s : State) : (retag i s).link = s.link ∧ (retag i s).commands = s.commands ∧
    (retag i s).ranges = s.ranges ∧ (retag i s).sup = s.sup ∧ (retag i s).params = s.params := by
  unfold retag
  dsimp only
  split <;> simp

/-- What a requested restart leaves of the scanner (R59). -/
def restarted (s : State) : Scanner :=
  if s.sup.mode = .online ∧ s.held .pinScanner = false then
    (pinEntryFrom s 0).elim .idle (fun x => .scanning x.1 (x.2.first / 256) .none)
  else .idle

theorem restartScanner_eq (s : State) : restartScanner s = { s with scanner := restarted s } := by
  unfold restartScanner restarted
  split
  · cases pinEntryFrom s 0 <;> rfl
  · rfl

theorem restarted_congr {s t : State} (hsup : t.sup.mode = s.sup.mode ∧ t.sup.holds = s.sup.holds)
    (hranges : t.ranges = s.ranges) : restarted t = restarted s := by
  obtain ⟨hmode, hholds⟩ := hsup
  unfold restarted State.held pinEntryFrom
  rw [hmode, hholds, hranges]

/-- The walk's end: the completion of LOAD RANGE, PIN_OVER, and the restart (R57). -/
theorem endWalk_eq (s : State) : endWalk s =
    let t := finishHold .loadRange s.map.pinnedCount { s with walk := none }
    { t with
      sup := if s.params.pinLimit ≤ s.map.pinnedCount then (setFlag .pinOver s).sup else s.sup
      scanner := restarted s } := by
  have hkept : (finishHold .loadRange s.map.pinnedCount { s with walk := none }).sup = s.sup ∧
      (finishHold .loadRange s.map.pinnedCount { s with walk := none }).ranges = s.ranges := by
    unfold finishHold
    split
    · split <;> exact ⟨rfl, rfl⟩
    · exact ⟨rfl, rfl⟩
  rw [endWalk]
  dsimp only
  generalize finishHold .loadRange s.map.pinnedCount { s with walk := none } = t at hkept
  obtain ⟨hsup, hranges⟩ := hkept
  have hsame : restarted t = restarted s := restarted_congr (by rw [hsup]; exact ⟨rfl, rfl⟩) hranges
  have hflag : restarted (setFlag .pinOver t) = restarted t := restarted_congr ⟨rfl, rfl⟩ rfl
  rw [restartScanner_eq]
  by_cases hover : s.params.pinLimit ≤ s.map.pinnedCount
  · rw [if_pos hover, if_pos hover, ← setFlag_sup_congr hsup, hflag, hsame]
    rfl
  · rw [if_neg hover, if_neg hover, hsame, ← hsup]

/-- Settles O41. -/
theorem retagVisitSettled : Obligations.RetagVisit := by
  unfold Obligations.RetagVisit
  intro s
  have hexec : exec .retagVisit s = .next (event s (retagVisit s)) := rfl
  refine ⟨fun hnone => by rw [hexec, retagVisit, hnone]; rfl, fun i hwalk => ?_, fun i k e => pinEntryFrom_iff⟩
  intro r v
  have hv : retag i s = v := by
    rw [retag_eq]
    cases hc : (s.slot i).chunk <;> simp [v, r, hc]
  have hvisit : retagVisit s = some (if i + 1 < s.map.slotCount then { v with walk := some (i + 1) } else endWalk v) := by
    rw [retagVisit, hwalk, ← hv]
    rfl
  refine ⟨fun hmore => ?more, fun hlast => ?last⟩
  case more => rw [hexec, hvisit, if_pos hmore, event_some]
  case last =>
    intro ended
    obtain ⟨hlink, hcommands, hranges, hsup, hparams⟩ := retag_kept i s
    rw [hv] at hlink hcommands hranges hsup hparams
    have hended : ended = { v with
        walk := none
        sup := if v.params.pinLimit ≤ v.map.pinnedCount then (setFlag .pinOver v).sup else v.sup
        scanner := restarted v } := by
      have hlimit : (if v.params.pinLimit ≤ v.map.pinnedCount then (setFlag .pinOver v).sup else v.sup) =
          if s.params.pinLimit ≤ v.map.pinnedCount then (setFlag .pinOver v).sup else v.sup := by rw [hparams]
      rw [hlimit, restarted_congr (s := s) (by rw [hsup]; exact ⟨rfl, rfl⟩) hranges, restarted]
      cases hp : pinEntryFrom s 0 <;> simp only [ended, hp, Option.elim_none, Option.elim_some]
    have hlast : exec .retagVisit s = .next (settle s (endWalk v)) := by
      rw [hexec, hvisit, if_neg (by omega), event_some]
    refine ⟨fun tag hh => ?_, fun hother => ?_⟩
    · rw [hlast, endWalk_eq, finishHold_held (s := s) hh (by exact hlink) (by exact hcommands), hended]
      rfl
    · have hfinish (code : Nat) : finishHold .loadRange code { v with walk := none } = { v with walk := none } := by
        unfold finishHold
        split
        next hh heq =>
          have hhold : s.link.headHold = some hh := by rw [← hlink]; exact heq
          rw [if_neg]
          intro hop
          obtain ⟨tag, op⟩ := hh
          exact hother tag (hop ▸ hhold)
        next => rfl
      rw [hlast, endWalk_eq, hfinish, hended]

/-! ### The Pin Scanner's examination (R60 to R62) -/

theorem pinPassesOver_iff {s : State} {c : Nat} : pinPassesOver s c = true ↔
    (∃ i q, s.map.bound c = some (i, q) ∧ (q.valid = BitVec.allOnes 256 ∨ q.queued = true)) ∨
      chunkIn s .bypass c = true ∨ anyJobNames s c = true := by
  unfold pinPassesOver boundSlotQueued
  cases hb : s.map.bound c with
  | none => simp
  | some x =>
    obtain ⟨i, q⟩ := x
    simp only [Option.any_some, Bool.or_eq_true, beq_iff_eq, fullSet, Option.some.injEq, Prod.mk.injEq,
      and_assoc, exists_and_left, exists_eq_left']
    simp only [or_assoc, or_comm, or_left_comm]

/-- A chunk that is not passed over has no Pin-Fill on it, so its posting is no duplicate (R62, R114). -/
theorem isDuplicate_of_not_passed {s : State} {c : Nat} (h : pinPassesOver s c = false) :
    isDuplicate s ⟨.fill, .chunk c⟩ = false := by
  simp only [pinPassesOver, Bool.or_eq_false_iff] at h
  obtain ⟨⟨_, hjobs⟩, hqueued⟩ := h
  have hfills : chunkJobNames s c = false := by
    simp only [chunkJobNames, anyJobNames, List.any_eq_false, Bool.and_eq_true, not_and] at hjobs ⊢
    exact fun j hj _ => hjobs j hj
  simp [isDuplicate, duplicateFill, hfills, hqueued]

/-- A posting of a fill that is no duplicate, outside LOADING and at a queue with room (R115). -/
theorem post_fill_accepted {s : State} {k : JobClass} {c : Nat} (hmode : s.sup.mode ≠ .loading)
    (hdup : isDuplicate s ⟨.fill, .chunk c⟩ = false) (hroom : queueFull s k = false) :
    post k ⟨.fill, .chunk c⟩ s = { s with arbiter := { s.arbiter with
      queues := s.arbiter.queues.set k (s.arbiter.queues.get k ++ [⟨.fill, .chunk c⟩]) } } := by
  rw [post, if_neg hmode, if_neg (by simp [hdup]), if_neg (by simp [hroom])]
  rfl

theorem scannerAfter_eq {s : State} {e c : Nat} {r : RangeEntry} (h : s.ranges[e]? = some (some r)) :
    scannerAfter s e c = if c < r.last / 256 then .scanning e (c + 1) .none
      else (pinEntryFrom s (e + 1)).elim .idle (fun x => .scanning x.1 (x.2.first / 256) .none) := by
  unfold scannerAfter
  rw [h]
  cases pinEntryFrom s (e + 1) <;> rfl

theorem scanChunk_quiet {s : State} (h : ∀ e c, s.scanner ≠ .scanning e c .none) : scanChunk s = s := by
  unfold scanChunk
  split
  next e c heq => exact absurd heq (h e c)
  next => rfl

theorem scanChunk_cases {s : State} {e c : Nat} (h : s.scanner = .scanning e c .none) : scanChunk s =
    if pinPassesOver s c then { s with scanner := scannerAfter s e c }
    else if pinLimitHolds s || pinQueueFull s then stallScanner e c s
    else { post .pinFill ⟨.fill, .chunk c⟩ s with scanner := scannerAfter s e c } := by
  unfold scanChunk
  rw [h]

theorem stallScanner_eq (e c : Nat) (s : State) : stallScanner e c s = { s with
    scanner := .scanning e c (.stalled (pinLimitHolds s))
    sup := if pinLimitHolds s then (setFlag .pinOver s).sup else s.sup } := by
  unfold stallScanner
  cases pinLimitHolds s <;> rfl

/-- Settles O42. -/
theorem pinScannerExamination : Obligations.PinScannerExamination := by
  unfold Obligations.PinScannerExamination
  intro s
  have hexec : exec .pinScannerExamination s = .next (scanChunk s) := rfl
  refine ⟨fun hquiet => by rw [hexec, scanChunk_quiet hquiet], fun e c r hscan hrange => ?_⟩
  intro after waiting limited passed
  have hafter : scannerAfter s e c = after := by
    rw [scannerAfter_eq hrange]
    cases hp : pinEntryFrom s (e + 1) <;> simp only [after, hp, Option.elim_none, Option.elim_some]
  have hpassed : pinPassesOver s c = true ↔ passed := pinPassesOver_iff
  have hlimit : pinLimitHolds s = limited := rfl
  have hfull : pinQueueFull s = true ↔ 16 ≤ waiting := decide_eq_true_iff
  rw [hexec, scanChunk_cases hscan]
  refine ⟨fun hp => ?passes, fun hp hstall => ?stalls, fun hp hlim hroom hmode => ?posts⟩
  case passes => rw [if_pos (hpassed.mpr hp), hafter]
  case stalls =>
    rw [if_neg (mt hpassed.mp hp), if_pos (by rwa [Bool.or_eq_true, hlimit, hfull]), stallScanner_eq, hlimit]
  case posts =>
    have hno : pinPassesOver s c = false := by simpa using mt hpassed.mp hp
    have hroom' : pinQueueFull s = false := by
      rw [← Bool.not_eq_true, hfull]
      omega
    have hqueue : queueFull s .pinFill = false := hroom'
    rw [if_neg (by simp [hno]), if_neg (by simp [hlimit, hlim, hroom']), hafter,
      post_fill_accepted hmode (isDuplicate_of_not_passed hno) hqueue]
    rfl

end Sys2Proof.Machine
end

section
/-! O54. The Reclaimer's examination (R150 to R154). -/

namespace Sys2Proof.Machine

open Sys2Proof.Safety

theorem putSlot_slotCount (i : Nat) (r : SlotRec) (s : State) : (putSlot i r s).map.slotCount = s.map.slotCount := by
  cases h : s.map.slots[i]? with
  | none => rw [putSlot_absent h]
  | some old => rw [putSlot_map_eq h]; rfl

/-- A change of a slot's record does not touch a hand that moves (R152, R154). -/
theorem putSlot_moving {s : State} (i : Nat) (r : SlotRec) (h : s.reclaimer.condition = .moving) :
    (putSlot i r s).reclaimer = s.reclaimer := by
  unfold putSlot
  cases s.map.slots[i]? with
  | none => rfl
  | some old =>
    dsimp only
    rw [h, if_neg (by simp [wakesHand])]

theorem modifySlot_moving {s : State} (i : Nat) (f : SlotRec → SlotRec) (h : s.reclaimer.condition = .moving) :
    (modifySlot i f s).reclaimer = s.reclaimer := putSlot_moving i _ h

/-- What an examination counts of an idle revolution; with it complete, the duty goes off (R149, R150). -/
def revolved (s : State) : Reclaimer := { s.reclaimer with
  duties := { s.reclaimer.duties with
    idle := s.reclaimer.duties.idle && decide (s.reclaimer.idleRevolution + 1 < s.map.slotCount) }
  idleRevolution := if s.reclaimer.duties.idle then s.reclaimer.idleRevolution + 1 else s.reclaimer.idleRevolution }

theorem countRevolution_eq (s : State) : countRevolution s = { s with reclaimer := revolved s } := by
  unfold countRevolution revolved
  cases hidle : s.reclaimer.duties.idle with
  | false =>
    rw [if_neg Bool.false_ne_true, if_neg Bool.false_ne_true, Bool.false_and, ← hidle]
  | true =>
    rw [if_pos rfl, if_pos rfl, Bool.true_and]
    dsimp only
    by_cases hend : s.map.slotCount ≤ s.reclaimer.idleRevolution + 1
    · rw [if_pos hend, decide_eq_false (by omega)]
      rfl
    · rw [if_neg hend, decide_eq_true (by omega), ← hidle]

/-- An examination without progress that is the 2 × S-th in a row (R154). -/
def pausesAt (progress : Bool) (s : State) : Bool := progress = false ∧ 2 * s.map.slotCount ≤ s.reclaimer.noProgress + 1

theorem countProgress_eq (progress : Bool) (s : State) : countProgress progress s = { s with
    reclaimer := { s.reclaimer with
      noProgress := if progress = true ∨ pausesAt progress s = true then 0 else s.reclaimer.noProgress + 1
      condition := if pausesAt progress s then .paused else s.reclaimer.condition }
    sup := if pausesAt progress s then (setFlag .noEvictable s).sup else s.sup } := by
  unfold countProgress
  by_cases hp : progress = true
  · have hno : pausesAt progress s = false := by simp [pausesAt, hp]
    rw [if_pos hp, hno, if_pos (Or.inl hp)]
    rfl
  · by_cases hmore : s.reclaimer.noProgress + 1 < 2 * s.map.slotCount
    · have hno : pausesAt progress s = false := by
        simp only [pausesAt, decide_eq_false_iff_not]
        omega
      have hcounts : ¬ (progress = true ∨ pausesAt progress s = true) := by
        simpa only [hno, Bool.false_eq_true, or_false] using hp
      rw [if_neg hp, if_pos hmore, if_neg hcounts, hno]
      rfl
    · have hyes : pausesAt progress s = true := by
        simp only [pausesAt, decide_eq_true_eq]
        exact ⟨by simpa using hp, by omega⟩
      rw [if_neg hp, if_neg hmore, hyes, if_pos (Or.inr rfl)]
      rfl

theorem passHand_eq (progress : Bool) (s : State) : passHand progress s = { s with
    reclaimer := { revolved s with
      hand := if s.reclaimer.hand + 1 < s.map.slotCount then s.reclaimer.hand + 1 else 0
      noProgress := if progress = true ∨ pausesAt progress s = true then 0 else s.reclaimer.noProgress + 1
      condition := if pausesAt progress s then .paused else s.reclaimer.condition }
    sup := if pausesAt progress s then (setFlag .noEvictable s).sup else s.sup } := by
  rw [passHand, countRevolution_eq, countProgress_eq]
  rfl

/-- What the row of an examination does (R151, R152). -/
def examined (x : Examination) (s : State) : State :=
  match x with
  | .passOver => passHand false s
  | .free => passHand true (putSlot s.reclaimer.hand .free s)
  | .clearReferenced =>
    passHand false (putSlot s.reclaimer.hand { s.slot s.reclaimer.hand with referenced := false } s)
  | .flushUrgent =>
    if queueFull s .flushUrgent then countRevolution { s with reclaimer := { s.reclaimer with condition := .waiting } }
    else postFlush .flushUrgent s.reclaimer.hand s
  | .flushIdle =>
    if queueFull s .flushIdle then idleOff (countProgress false (countRevolution s))
    else postFlush .flushIdle s.reclaimer.hand s

theorem examination_still {s : State} (h : s.reclaimer.condition ≠ .moving) : examination s = none := if_pos h

theorem examination_moving {s : State} (h : s.reclaimer.condition = .moving) :
    examination s = some (examined (examine s.reclaimer.duties (s.slot s.reclaimer.hand)) s) := by
  rw [examination, if_neg (fun hne => hne h)]
  rfl

theorem examine_passOver {d : Duties} {r : SlotRec} (h : r.state ≠ .resident ∨ r.queued = true ∨ r.inflight ≠ 0) :
    examine d r = .passOver := if_pos h

theorem examine_rest {d : Duties} {r : SlotRec} (hstate : r.state = .resident) (hqueued : r.queued = false)
    (hinflight : r.inflight = 0) : examine d r =
      if r.valid = 0#256 then .free
      else if r.isDirty ∧ d.forced then .flushUrgent
      else if r.pinned = false ∧ r.referenced ∧ d.evict then .clearReferenced
      else if r.pinned = false ∧ r.isDirty = false ∧ d.evict then .free
      else if r.isDirty ∧ d.evict then .flushUrgent
      else if r.isDirty ∧ d.idle then .flushIdle
      else .passOver := by
  rw [examine, if_neg]
  simp [hstate, hqueued, hinflight]

/-- A flush of a slot, posted outside LOADING to a queue with room, is dropped only as a duplicate (R115). -/
theorem postFlush_eq {k : JobClass} {i : Nat} {s : State} (hmode : s.sup.mode ≠ .loading)
    (hroom : queueFull s k = false) : postFlush k i s =
      if isDuplicate s ⟨.flush, .slot i⟩ then passHand false s
      else passHand true (enqueue k ⟨.flush, .slot i⟩ s) := by
  unfold postFlush postAccepted post
  have hlater : (s.sup.mode != .loading) = true := by simpa using hmode
  cases isDuplicate s ⟨.flush, .slot i⟩ <;> simp [hmode, hlater, hroom]

/-- Settles O54. -/
theorem reclaimerExamination : Obligations.ReclaimerExamination := by
  unfold Obligations.ReclaimerExamination
  intro s i r S D dirty rev counted pauses passed flush answers
  have hpass (p : Bool) {u : State} (hu : u.reclaimer = s.reclaimer) (hS : u.map.slotCount = S)
      (hmoving : s.reclaimer.condition = .moving) : passHand p u = passed p u := by
    rw [passHand_eq, revolved, pausesAt, hu, hS, hmoving]
  have hexec : exec .reclaimerExamination s = .next (event s (examination s)) := rfl
  refine ⟨fun hstill => by rw [hexec, examination_still hstill]; rfl, fun hmoving hmode => ?_⟩
  have hanswer {x : Examination} {t : State} (hx : examine D r = x) (ht : examined x s = t) : answers t := by
    show exec .reclaimerExamination s = .next (settle s t)
    rw [hexec, examination_moving hmoving, event_some, ← ht, ← hx]
  have hflush {k : JobClass} (hroom : queueFull s k = false) : postFlush k i s = flush k := by
    have hget : (modifySlot i (fun q => { q with queued := true }) { s with arbiter := { s.arbiter with
        queues := s.arbiter.queues.set k (s.arbiter.queues.get k ++ [⟨.flush, .slot i⟩]) } }).map.slotCount = S :=
      putSlot_slotCount _ _ _
    rw [postFlush_eq hmode hroom, hpass false rfl rfl hmoving]
    refine congrArg (ite _ _) ?_
    exact hpass true (modifySlot_moving _ _ hmoving) hget hmoving
  have hpassed (hx : examine D r = .passOver) : answers (passed false s) := hanswer hx (hpass false rfl rfl hmoving)
  have hfreed (hx : examine D r = .free) : answers (passed true (putSlot i .free s)) :=
    hanswer hx (hpass true (putSlot_moving _ _ hmoving) (putSlot_slotCount _ _ _) hmoving)
  refine ⟨fun hany => hpassed (examine_passOver hany), fun hstate hqueued hinflight => ?_⟩
  have hrows := examine_rest (d := D) hstate hqueued hinflight
  have hdirty : r.isDirty = dirty := by
    simp only [dirty, SlotRec.isDirty, hstate]
    by_cases hz : r.dirty = 0#256 <;> simp [hz]
  rw [hdirty] at hrows
  refine ⟨fun hvalid => hfreed (by rw [hrows, if_pos hvalid]), fun hvalid => ?_⟩
  rw [if_neg hvalid] at hrows
  intro urgent
  have hurgent (hx : examine D r = .flushUrgent) : urgent := by
    refine ⟨fun hfull => hanswer hx ?_, fun hroom => hanswer hx ?_⟩
    · have hq : queueFull s .flushUrgent = true := decide_eq_true hfull
      rw [examined, if_pos hq, countRevolution_eq]
      rfl
    · have hq : queueFull s .flushUrgent = false := decide_eq_false (Nat.not_le_of_lt hroom)
      rw [examined, if_neg (by simp [hq]), hflush hq]
  refine ⟨fun hd hforced => hurgent (by rw [hrows, if_pos ⟨hd, hforced⟩]), fun hcalm => ?_⟩
  rw [if_neg (by rintro ⟨hd, hf⟩; rcases hcalm with h | h <;> simp_all)] at hrows
  refine ⟨fun hpin href hev => ?_, fun hpin href hd hev => ?_, fun hkeep hd hev => ?_, fun hd hev hidle => ?_,
    fun hev hrest => ?_, fun hev hpin hd => ?_⟩
  · exact hanswer (x := .clearReferenced) (by rw [hrows, if_pos ⟨hpin, href, hev⟩])
      (hpass false (putSlot_moving _ _ hmoving) (putSlot_slotCount _ _ _) hmoving)
  · exact hfreed (by simp [hrows, hpin, href, hd, hev])
  · refine hurgent ?_
    rcases hkeep with hpin | href
    · simp [hrows, hpin, hd, hev]
    · simp [hrows, href, hd, hev]
  · have hx : examine D r = .flushIdle := by simp [hrows, hd, hev, hidle]
    refine ⟨fun hfull => hanswer hx ?_, fun hroom => hanswer hx ?_⟩
    · have hq : queueFull s .flushIdle = true := decide_eq_true hfull
      rw [examined, if_pos hq, countRevolution_eq, countProgress_eq]
      dsimp only [idleOff, revolved]
      simp only [Bool.false_eq_true, false_or, hmoving]
      rfl
    · have hq : queueFull s .flushIdle = false := decide_eq_false (Nat.not_le_of_lt hroom)
      rw [examined, if_neg (by simp [hq]), hflush hq]
  · refine hpassed ?_
    rcases hrest with hd | hidle
    · simp [hrows, hd, hev]
    · simp [hrows, hev, hidle]
  · exact hpassed (by simp [hrows, hpin, hd, hev])

end Sys2Proof.Machine
end

section
/-! O22. HOLD BLOCKS (R174, R128, R145). -/

namespace Sys2Proof.Machine

open Sys2Proof.Safety

/-! ### One block -/

section
variable {b : Block} {was : BitVec 5} {enter leave : State → State} {s : State}

theorem changeHold_stays (h : was.getLsbD b.bit = s.held b) : changeHold b was enter leave s = s := if_pos h

theorem changeHold_enters (hwas : was.getLsbD b.bit = false) (hnow : s.held b = true) :
    changeHold b was enter leave s = enter s := by
  rw [changeHold, if_neg (by simp [hwas, hnow]), if_pos hnow]

theorem changeHold_leaves (hwas : was.getLsbD b.bit = true) (hnow : s.held b = false) :
    changeHold b was enter leave s = leave s := by
  rw [changeHold, if_neg (by simp [hwas, hnow]), if_neg (by simp [hnow])]

/-- The change of a block is nothing, its entering or its leaving. -/
theorem changeHold_cases : changeHold b was enter leave s = s ∨ changeHold b was enter leave s = enter s ∨
    changeHold b was enter leave s = leave s := by
  unfold changeHold
  split
  · exact Or.inl rfl
  · split
    · exact Or.inr (Or.inl rfl)
    · exact Or.inr (Or.inr rfl)

end

/-! ### The blocks before Mover -/

/-- The new hold set, stored. -/
def withHolds (m : BitVec 5) (s : State) : State := { s with sup := { s.sup with holds := m } }

/-- The new hold set with what Heat, PinScanner and Reclaimer do at it. -/
def quietHolds (m : BitVec 5) (s : State) : State :=
  changeHold .reclaimer s.sup.holds holdReclaimer id
    (changeHold .pinScanner s.sup.holds idleScanner restartScanner
      (changeHold .heat s.sup.holds holdHeat releaseHeat (withHolds m s)))

theorem takeHolds_eq (m : BitVec 5) (s : State) :
    takeHolds m s = changeHold .mover s.sup.holds holdMover releaseMover (quietHolds m s) := rfl

@[simp] theorem changeHeat_frame (was : BitVec 5) (s : State) :
    let t := changeHold .heat was holdHeat releaseHeat s
    t.link = s.link ∧ t.commands = s.commands ∧ t.routing = s.routing ∧ t.map = s.map ∧ t.ranges = s.ranges ∧
    t.walk = s.walk ∧ t.scanner = s.scanner ∧ t.arbiter = s.arbiter ∧ t.mover = s.mover ∧ t.reclaimer = s.reclaimer ∧
    t.flash = s.flash ∧ t.disk = s.disk ∧ t.spindle = s.spindle ∧ t.sup = s.sup ∧ t.params = s.params := by
  intro t
  rcases changeHold_cases (b := .heat) (was := was) (enter := holdHeat) (leave := releaseHeat) (s := s) with h | h | h <;>
    simp only [t, h] <;> simp [releaseHeat]

@[simp] theorem changeScanner_frame (was : BitVec 5) (s : State) :
    let t := changeHold .pinScanner was idleScanner restartScanner s
    t.link = s.link ∧ t.commands = s.commands ∧ t.routing = s.routing ∧ t.map = s.map ∧ t.ranges = s.ranges ∧
    t.walk = s.walk ∧ t.heat = s.heat ∧ t.streams = s.streams ∧ t.arbiter = s.arbiter ∧ t.mover = s.mover ∧
    t.reclaimer = s.reclaimer ∧ t.flash = s.flash ∧ t.disk = s.disk ∧ t.spindle = s.spindle ∧ t.sup = s.sup ∧
    t.params = s.params := by
  intro t
  rcases changeHold_cases (b := .pinScanner) (was := was) (enter := idleScanner) (leave := restartScanner) (s := s)
    with h | h | h <;> simp only [t, h, idleScanner, restartScanner_eq] <;> simp

@[simp] theorem changeReclaimer_frame (was : BitVec 5) (s : State) :
    let t := changeHold .reclaimer was holdReclaimer id s
    t.link = s.link ∧ t.commands = s.commands ∧ t.routing = s.routing ∧ t.map = s.map ∧ t.ranges = s.ranges ∧
    t.walk = s.walk ∧ t.scanner = s.scanner ∧ t.heat = s.heat ∧ t.streams = s.streams ∧ t.arbiter = s.arbiter ∧
    t.mover = s.mover ∧ t.flash = s.flash ∧ t.disk = s.disk ∧ t.spindle = s.spindle ∧ t.sup = s.sup ∧
    t.params = s.params := by
  intro t
  rcases changeHold_cases (b := .reclaimer) (was := was) (enter := holdReclaimer) (leave := id) (s := s)
    with h | h | h <;> simp only [t, h, holdReclaimer, id_eq] <;> simp

@[simp] theorem quietHolds_frame (m : BitVec 5) (s : State) :
    (quietHolds m s).link = s.link ∧ (quietHolds m s).commands = s.commands ∧ (quietHolds m s).routing = s.routing ∧
    (quietHolds m s).map = s.map ∧ (quietHolds m s).ranges = s.ranges ∧ (quietHolds m s).walk = s.walk ∧
    (quietHolds m s).arbiter = s.arbiter ∧ (quietHolds m s).mover = s.mover ∧ (quietHolds m s).flash = s.flash ∧
    (quietHolds m s).disk = s.disk ∧ (quietHolds m s).spindle = s.spindle ∧
    (quietHolds m s).sup = { s.sup with holds := m } ∧ (quietHolds m s).params = s.params := by
  simp [quietHolds, withHolds]

theorem quietHolds_heat (m : BitVec 5) (s : State) :
    (quietHolds m s).heat = (changeHold .heat s.sup.holds holdHeat releaseHeat (withHolds m s)).heat ∧
    (quietHolds m s).streams = (changeHold .heat s.sup.holds holdHeat releaseHeat (withHolds m s)).streams := by
  simp [quietHolds]

theorem quietHolds_scanner (m : BitVec 5) (s : State) : (quietHolds m s).scanner =
    (changeHold .pinScanner s.sup.holds idleScanner restartScanner
      (changeHold .heat s.sup.holds holdHeat releaseHeat (withHolds m s))).scanner := by
  simp [quietHolds]

theorem quietHolds_reclaimer {m : BitVec 5} {s : State} (hwas : s.held .reclaimer = false)
    (hnow : m.getLsbD Block.reclaimer.bit = true) :
    (quietHolds m s).reclaimer = ⟨⟨false, false, false⟩, 0, .stopped, 0, 0, none⟩ := by
  rw [quietHolds, changeHold_enters hwas (by simpa [State.held, withHolds] using hnow)]
  rfl

theorem quietHolds_hand {m : BitVec 5} {s : State} (h : ¬ (s.held .reclaimer = false ∧ m.getLsbD Block.reclaimer.bit = true)) :
    (quietHolds m s).reclaimer = s.reclaimer := by
  have hkept : ∀ u : State, u.sup.holds = m → changeHold .reclaimer s.sup.holds holdReclaimer id u = u := by
    intro u hu
    unfold changeHold
    split
    · rfl
    next hne =>
      rw [if_neg]
      · rfl
      · intro hheld
        have hnow : m.getLsbD Block.reclaimer.bit = true := by rwa [State.held, hu] at hheld
        refine h ⟨?_, hnow⟩
        rw [hheld] at hne
        simpa [State.held] using hne
  rw [quietHolds, hkept _ (by simp [withHolds])]
  simp [withHolds]

theorem quietHolds_stays {m : BitVec 5} {s : State} (h : ∀ b, b ≠ .mover → s.held b = m.getLsbD b.bit) :
    quietHolds m s = withHolds m s := by
  have hstep (b : Block) (hb : b ≠ .mover) (enter leave : State → State) :
      changeHold b s.sup.holds enter leave (withHolds m s) = withHolds m s := changeHold_stays (h b hb)
  rw [quietHolds, hstep .heat (by decide), hstep .pinScanner (by decide), hstep .reclaimer (by decide)]

theorem quietHolds_heat_enters {m : BitVec 5} {s : State} (hwas : s.held .heat = false)
    (hnow : m.getLsbD Block.heat.bit = true) :
    (quietHolds m s).streams = [] ∧ (quietHolds m s).heat = ⟨List.replicate 1024 none, 0, 0, 0, none, none⟩ := by
  obtain ⟨hheat, hstreams⟩ := quietHolds_heat m s
  rw [changeHold_enters hwas (by simpa [State.held, withHolds] using hnow)] at hheat hstreams
  exact ⟨hstreams, hheat⟩

theorem quietHolds_heat_leaves {m : BitVec 5} {s : State} (hwas : s.held .heat = true)
    (hnow : m.getLsbD Block.heat.bit = false) : (quietHolds m s).streams = s.streams ∧
      (quietHolds m s).heat = { s.heat with tick := some (tickPeriod s.params.sweepCode) } := by
  obtain ⟨hheat, hstreams⟩ := quietHolds_heat m s
  rw [changeHold_leaves hwas (by simpa [State.held, withHolds] using hnow)] at hheat hstreams
  exact ⟨hstreams, hheat⟩

theorem quietHolds_heat_stays {m : BitVec 5} {s : State} (h : s.held .heat = m.getLsbD Block.heat.bit) :
    (quietHolds m s).streams = s.streams ∧ (quietHolds m s).heat = s.heat := by
  obtain ⟨hheat, hstreams⟩ := quietHolds_heat m s
  rw [changeHold_stays (by exact h)] at hheat hstreams
  exact ⟨hstreams, hheat⟩

theorem quietHolds_scanner_enters {m : BitVec 5} {s : State} (hwas : s.held .pinScanner = false)
    (hnow : m.getLsbD Block.pinScanner.bit = true) : (quietHolds m s).scanner = .idle := by
  rw [quietHolds_scanner, changeHold_enters hwas (by simpa [State.held, withHolds] using hnow)]
  rfl

theorem quietHolds_scanner_leaves {m : BitVec 5} {s : State} (hwas : s.held .pinScanner = true)
    (hnow : m.getLsbD Block.pinScanner.bit = false) : (quietHolds m s).scanner =
      if s.sup.mode = .online then (pinEntryFrom s 0).elim .idle (fun x => .scanning x.1 (x.2.first / 256) .none)
      else .idle := by
  have hsup : (changeHold .heat s.sup.holds holdHeat releaseHeat (withHolds m s)).sup = { s.sup with holds := m } := by
    simp [withHolds]
  have hranges : (changeHold .heat s.sup.holds holdHeat releaseHeat (withHolds m s)).ranges = s.ranges := by
    simp [withHolds]
  rw [quietHolds_scanner, changeHold_leaves hwas (by rw [State.held, hsup]; exact hnow), restartScanner_eq,
    restarted_congr (s := withHolds m s) (by rw [hsup]; exact ⟨rfl, rfl⟩) (by rw [hranges]; rfl)]
  have hheld : (withHolds m s).held .pinScanner = false := hnow
  simp only [restarted, hheld, and_true]
  rfl

/-! ### Mover -/

/-- A service that does not await its acknowledgement any more (R128). -/
def unawaited (v : Service) : Service := if v = .awaitAck then .none else v

/-- The services after AWAIT_ACK has ended in each of them (R128). -/
def unawaitedAll (p : PerClass Service) : PerClass Service :=
  ⟨unawaited p.flushUrgent, unawaited p.pinFill, unawaited p.directed, unawaited p.hotFill, unawaited p.flushIdle⟩

theorem unawaitedAll_get (p : PerClass Service) (k : JobClass) : (unawaitedAll p).get k = unawaited (p.get k) := by
  cases k <;> rfl

theorem dropAwaitAck_eq (s : State) (k : JobClass) : dropAwaitAck s k = { s with
    arbiter := { s.arbiter with service := s.arbiter.service.set k (unawaited (s.arbiter.service.get k)) } } := by
  unfold dropAwaitAck unawaited
  split
  · rfl
  · have hsame : s.arbiter.service.set k (s.arbiter.service.get k) = s.arbiter.service := by cases k <;> rfl
    rw [hsame]

theorem foldl_dropAwaitAck (s : State) : allClasses.foldl dropAwaitAck s =
    { s with arbiter := { s.arbiter with service := unawaitedAll s.arbiter.service } } := by
  simp only [allClasses, List.foldl_cons, List.foldl_nil, dropAwaitAck_eq]
  rfl

theorem abortJob_vacant {cause : AbortCause} {c : CtxId} {s : State} (h : s.ctx c = none) : abortJob cause c s = s := by
  unfold abortJob
  rw [h]

/-- A Mover with at most one job enters the hold set (R128, R145). -/
theorem holdMover_single {s u : State} (hone : s.mover.ctx1 = none)
    (hu : abortJob .held .ctx0 { s with arbiter := { s.arbiter with service := unawaitedAll s.arbiter.service } } = u)
    (hvacant : u.ctx .ctx1 = none) : holdMover s = u := by
  have hcount : ¬ occupiedContexts s = 2 := by
    have hle := Bool.toNat_le s.mover.ctx0.isSome
    simp only [occupiedContexts, hone, Option.isSome_none, Bool.toNat_false]
    omega
  unfold holdMover
  rw [if_neg hcount]
  dsimp only
  rw [foldl_dropAwaitAck, holdOrder]
  split
  · rw [List.foldl_cons, hu, List.foldl_cons, abortJob_vacant hvacant, List.foldl_nil]
  · rw [List.foldl_cons, abortJob_vacant (by exact hone), List.foldl_cons, hu, List.foldl_nil]

theorem releaseMover_vacant {s : State} (h0 : s.mover.ctx0 = none) (h1 : s.mover.ctx1 = none) : releaseMover s = s := by
  have hsame : ({ s.mover with
      ctx0 := s.mover.ctx0.map Context.stopWatchdog
      ctx1 := s.mover.ctx1.map Context.stopWatchdog } : Mover) = s.mover := by
    cases hm : s.mover with
    | mk c0 c1 failure =>
      rw [hm] at h0 h1
      cases h0
      cases h1
      rfl
  rw [releaseMover, hsame]

/-- Without jobs in Mover a new hold set changes only services beside what the other blocks do. -/
theorem takeHolds_vacant {m : BitVec 5} {s : State} (h0 : s.mover.ctx0 = none) (h1 : s.mover.ctx1 = none) :
    ∃ service, takeHolds m s =
      { quietHolds m s with arbiter := { s.arbiter with service := service } } := by
  have harbiter : (quietHolds m s).arbiter = s.arbiter := by simp
  have hmover : (quietHolds m s).mover = s.mover := by simp
  rw [takeHolds_eq, ← harbiter]
  rcases changeHold_cases (b := .mover) (was := s.sup.holds) (enter := holdMover) (leave := releaseMover)
    (s := quietHolds m s) with h | h | h
  · exact ⟨_, h⟩
  · refine ⟨_, h.trans (holdMover_single (by rw [hmover, h1]) (abortJob_vacant ?_) ?_)⟩
    · exact (congrArg Mover.ctx0 hmover).trans h0
    · exact (congrArg Mover.ctx1 hmover).trans h1
  · refine ⟨(quietHolds m s).arbiter.service, h.trans ?_⟩
    exact releaseMover_vacant ((congrArg Mover.ctx0 hmover).trans h0) ((congrArg Mover.ctx1 hmover).trans h1)

/-- A job that ends under a Mover hold (R128, R132): its class's service is NONE without rotation, and no job becomes
ACTIVE. -/
theorem endJob_held {c : CtxId} {e : JobEnd} {s : State} {x : Context} (hheld : s.held .mover = true) (hx : s.ctx c = some x)
    (hcause : x.abort = some .held) : endJob c e s =
      (judgeStall (setService x.cls .none (setCtx c none (recordEnd x e (releaseJobSlot x s)))), none) := by
  unfold endJob
  rw [hx]
  dsimp only
  rw [if_pos hheld, takeJobEnd, if_pos (Or.inr hcause)]

theorem releaseJobSlot_known {x : Context} {slot : Nat} (h : x.slot = some slot) (s : State) : releaseJobSlot x s =
    modifySlot slot (if x.action = .fill then SlotRec.afterFill else SlotRec.afterFlush) s := by
  have hjob : jobSlot x s = some slot := by
    unfold jobSlot
    rw [h]
  rw [releaseJobSlot, hjob]

/-- A job without a piece is ended by its abort cause (R145). -/
theorem abortJob_idle {s : State} {x : Context} (hx : s.ctx .ctx0 = some x) (hheld : s.held .mover = true)
    (habort : x.abort = none) (hpiece : x.piece = none) :
    abortJob .held .ctx0 s = judgeStall (setService x.cls .none (setCtx .ctx0 none
      (recordEnd { x with abort := some .held } (.failed .held none) (releaseJobSlot { x with abort := some .held }
        (setCtx .ctx0 (some { x with abort := some .held }) s))))) := by
  unfold abortJob
  rw [hx]
  dsimp only
  rw [if_neg (by simp [habort])]
  split
  next id heq => rw [hpiece] at heq; contradiction
  next =>
    rw [endJob_held (x := { x with abort := some .held }) (by exact hheld) (by rfl) (by rfl)]
    rfl

theorem putSlot_map_elim (i : Nat) (r : SlotRec) (s : State) :
    (putSlot i r s).map = (s.map.slots[i]?).elim s.map (fun old => s.map.put i old r) := by
  cases h : s.map.slots[i]? with
  | none => rw [putSlot_absent h]; rfl
  | some old => rw [putSlot_map_eq h]; rfl

theorem modifySlot_map_congr {s t : State} (i : Nat) (f : SlotRec → SlotRec) (h : t.map = s.map) :
    (modifySlot i f t).map = (modifySlot i f s).map := by
  rw [modifySlot, modifySlot, putSlot_map_elim, putSlot_map_elim, State.slot, State.slot, h]

theorem stallSeen_congr {x : Scanner} {s t : State} (hqueues : t.arbiter.queues = s.arbiter.queues) (hmap : t.map = s.map)
    (hparams : t.params = s.params) : stallSeen x t = stallSeen x s := by
  unfold stallSeen
  rw [hqueues, hmap, hparams]

theorem judgeStall_holds (s : State) : (judgeStall s).sup.holds = s.sup.holds := by
  unfold judgeStall
  (repeat' split) <;> rfl

/-- The scanner after a stall has been looked at, on the counts as they then stand (R61). -/
theorem judgeStall_seen (s : State) : (judgeStall s).scanner = stallSeen s.scanner (judgeStall s) := by
  rw [judgeStall_scanner]
  exact (stallSeen_congr (by simp) (by simp) (by simp)).symm

theorem stallSeen_twice (s : State) : ∀ x : Scanner, stallSeen (stallSeen x s) s = stallSeen x s
  | .idle => rfl
  | .scanning _ _ .none => rfl
  | .scanning e c (.stalled raised) => by
    simp only [stallSeen]
    by_cases hfull : 16 ≤ s.arbiter.queues.pinFill.length
    · simp only [if_pos hfull]
    · by_cases hover : s.params.pinLimit ≤ s.map.pinnedCount + s.arbiter.queues.pinFill.length
      · simp only [if_neg hfull, if_pos hover]
      · simp only [if_neg hfull, if_neg hover]

/-- What a Mover hold leaves of a part whose one job has no piece outstanding (R128, R145). -/
theorem holdMover_idle {s : State} {x : Context} {slot : Nat} (hx : s.mover.ctx0 = some x) (hone : s.mover.ctx1 = none)
    (hheld : s.held .mover = true) (habort : x.abort = none) (hpiece : x.piece = none) (hslot : x.slot = some slot) :
    (holdMover s).mover = ⟨none, none, some ⟨x.cls, x.action, x.chunk, some slot, .held, none, x.phase⟩⟩ ∧
    (holdMover s).sup.flags.getLsbD 4 = true ∧ (holdMover s).sup.holds = s.sup.holds ∧
    (∀ k, (holdMover s).arbiter.service.get k = if k = x.cls then .none else unawaited (s.arbiter.service.get k)) ∧
    (holdMover s).arbiter.queues = s.arbiter.queues ∧ (holdMover s).arbiter.lowest = s.arbiter.lowest ∧
    (holdMover s).params = s.params ∧ (holdMover s).commands = s.commands ∧
    (holdMover s).scanner = stallSeen s.scanner (holdMover s) ∧
    (holdMover s).map = (modifySlot slot (if x.action = .fill then SlotRec.afterFill else SlotRec.afterFlush) s).map := by
  have hended := abortJob_idle (s := { s with arbiter := { s.arbiter with service := unawaitedAll s.arbiter.service } })
    (by exact hx) (by exact hheld) habort hpiece
  rw [releaseJobSlot_known (x := { x with abort := some .held }) hslot] at hended
  rw [holdMover_single hone hended (by simp [State.ctx, setService, setCtx, recordEnd, hone])]
  refine ⟨?_, ?_, ?_, ?_, ?_, ?_, ?_, ?_, ?_, ?_⟩
  · simp [setService, setCtx, recordEnd, hone, hslot]
  · rw [judgeStall_flags]
    simp [setService, setCtx, recordEnd, setFlag_flags, EventFlag.bit]
  · rw [judgeStall_holds]
    simp [setService, setCtx, recordEnd, setFlag, Supervision.drive]
  · simp [setService, setCtx, recordEnd, PerClass.get_set, unawaitedAll_get]
  · simp [setService, setCtx, recordEnd]
  · simp [setService, setCtx, recordEnd]
  · simp [setService, setCtx, recordEnd]
  · simp [setService, setCtx, recordEnd]
  · refine (judgeStall_seen _).trans (congrArg (fun y => stallSeen y _) ?_)
    simp [setService, setCtx, recordEnd]
  · refine Eq.trans ?_ (modifySlot_map_congr (t := setCtx .ctx0 (some { x with abort := some .held }) { s with
      arbiter := { s.arbiter with service := unawaitedAll s.arbiter.service } }) slot _ rfl)
    simp [setService, setCtx, recordEnd]

/-- A job with a flash piece in SENT asks for its abort (R93, R145). -/
theorem abortJob_flash_sent {s : State} {x : Context} {id : Nat} {q : Piece} {before behind : List Piece}
    {c : CtxId} (cause : AbortCause) (hx : s.ctx c = some x) (habort : x.abort = none) (hpiece : x.piece = some id)
    (hlist : s.flash.list = before ++ q :: behind) (hid : q.id = id) (hsent : q.state = .sent)
    (hother : ∀ y ∈ before ++ behind, y.id ≠ id) : abortJob cause c s = {
      setCtx c (some { x with abort := some cause }) s with
      flash := { s.flash with
        list := before ++ { q with state := .aborting } :: behind, sent := s.flash.sent ++ [.abort id] } } := by
  have hbefore : ∀ y ∈ before, y.id ≠ q.id := fun y hy => hid ▸ hother y (List.mem_append_left _ hy)
  have hbehind : ∀ y ∈ behind, y.id ≠ q.id := fun y hy => hid ▸ hother y (List.mem_append_right _ hy)
  have hport : portOf id s = .flash := by
    rw [portOf, hlist, if_pos (by simp [hid])]
  have hfind : findPiece id s.flash.list = some (q, behind) := by
    rw [hlist, ← hid, findPiece_middle hbefore]
  have hmap : s.flash.list.map (fun y => if y.id = id then { y with state := PieceState.aborting } else y) =
      before ++ { q with state := .aborting } :: behind := by
    rw [hlist, ← hid]
    exact map_modify_middle _ hbefore hbehind
  unfold abortJob
  rw [hx]
  dsimp only
  rw [if_neg (by simp [habort])]
  split
  next id' heq =>
    rw [hpiece] at heq
    cases heq
    unfold ownerAbort
    have hkept : ((setCtx c (some { x with abort := some cause }) s).port .flash) = s.flash := by cases c <;> rfl
    rw [hport, hkept, hfind]
    dsimp only
    rw [hsent]
    dsimp only
    rw [if_neg (by simp), ← hmap]
    cases c <;> rfl
  next heq => rw [hpiece] at heq; contradiction

theorem settle_mover_untimed {b s : State} (h0 : s.mover.ctx0.map Context.stopWatchdog = s.mover.ctx0)
    (h1 : s.mover.ctx1.map Context.stopWatchdog = s.mover.ctx1) : (settle b s).mover = s.mover := by
  have hctx (c : CtxId) : (settle b s).ctx c = s.ctx c := by
    rcases settle_ctx b s c with h | h
    · exact h
    · cases c with
      | ctx0 => exact h.trans h0
      | ctx1 => exact h.trans h1
  have hctx0 : (settle b s).mover.ctx0 = s.mover.ctx0 := hctx .ctx0
  have hctx1 : (settle b s).mover.ctx1 = s.mover.ctx1 := hctx .ctx1
  have hfailure := settle_failure b s
  cases hm : (settle b s).mover
  cases hz : s.mover
  simp_all

theorem settle_heat (b s : State) : (settle b s).heat = s.heat := by simp

theorem settle_streams (b s : State) : (settle b s).streams = s.streams := by simp

theorem settle_arbiter (b s : State) : (settle b s).arbiter = s.arbiter := by simp

theorem settle_map (b s : State) : (settle b s).map = s.map := by simp

theorem settle_params (b s : State) : (settle b s).params = s.params := by simp

theorem settle_flash (b s : State) : (settle b s).flash = s.flash := by simp

/-- The Reclaimer in its hold state, at the end of an event in which it is held (R156). -/
theorem settle_reclaimer_held {b s : State} (hheld : s.held .reclaimer = true)
    (hz : s.reclaimer = ⟨⟨false, false, false⟩, 0, .stopped, 0, 0, none⟩) :
    (settle b s).reclaimer = ⟨⟨false, false, false⟩, 0, .stopped, 0, 0, none⟩ := by
  obtain ⟨hhand, hprogress, hrevolution⟩ := settle_hand b s
  have hduties : (settle b s).reclaimer.duties = ⟨false, false, false⟩ := by
    rw [settle_duties, if_pos (Or.inl hheld), hz]
  have hquiet : (judgeDuties (needed s)).reclaimer.duties.any = false := by
    rw [judgeDuties_duties, if_pos (Or.inl (by simpa [State.held] using hheld))]
    simp [hz, Duties.any]
  have hcondition : (settle b s).reclaimer.condition = .stopped := by
    rw [settle_condition, judgeHand_condition, if_pos hquiet]
  have htimer : (settle b s).reclaimer.idleFlushTimer = none := by
    rw [settle_idleFlushTimer, if_neg]
    rintro ⟨hidle, _⟩
    obtain ⟨_, _, _, _, hnot⟩ := idleFlushCondition_iff.mp hidle
    rw [State.held, (settle_holds b s).1] at hnot
    exact Bool.false_ne_true (hnot.symm.trans hheld)
  rw [hz] at hhand hprogress hrevolution
  cases hr : (settle b s).reclaimer
  simp_all

/-! ### The obligation -/

section
variable {s : State} {d : Descriptor} {rest : List Descriptor}

/-- The new hold set as the descriptor encodes it (R174). -/
def holdSet (d : Descriptor) : BitVec 5 := BitVec.ofNat 5 (headerField d 4 1)

theorem holdBlocks_step (h : HeadIs .holdBlocks d rest s)
    (hcommands : (takeHolds (holdSet d) (taken .holdBlocks d rest s)).commands = (taken .holdBlocks d rest s).commands) :
    exec .holdBlocks s = .next (settle s (replied d .good (.fields [some (headerField d 4 1 % 32)])
      { takeHolds (holdSet d) (taken .holdBlocks d rest s) with commands := s.commands })) := by
  have hexec : exec .holdBlocks s = .next (event s (manage .holdBlocks anyDescriptor ownHoldBlocks s)) := rfl
  rw [hexec, judged_head h, ← answerGood_of h hcommands]
  simp only [ownHoldBlocks, holdSet, BitVec.toNat_ofNat]

theorem takeHolds_same (s : State) : takeHolds s.sup.holds s = s := by
  have hquiet : quietHolds s.sup.holds s = s := (quietHolds_stays fun _ _ => rfl).trans rfl
  rw [takeHolds_eq, hquiet, changeHold_stays rfl]

end

/-- Settles O22. -/
theorem holdBlocks : Obligations.HoldBlocks := by
  unfold Obligations.HoldBlocks
  intro s d rest h m enters leaves stays
  have hm : holdSet d = m := rfl
  have hfree : s.link.headHold = none := h.1
  refine ⟨fun h0 h1 => ?vacant, fun hleaves => ?released, fun x h0 h1 habort henters hstays => ?single⟩
  case vacant =>
    obtain ⟨service, htake⟩ := takeHolds_vacant (m := m) (s := taken .holdBlocks d rest s) (by exact h0) (by exact h1)
    have hstep := holdBlocks_step h (by rw [hm, htake]; simp)
    rw [hm, htake] at hstep
    obtain ⟨hholds, _, _⟩ := settle_holds s (replied d .good (.fields [some (headerField d 4 1 % 32)])
      { quietHolds m (taken .holdBlocks d rest s) with
        arbiter := { s.arbiter with service := service }, commands := s.commands })
    refine ⟨_, hstep, ?_, ?_, ?_, ?_, ?_, ?_, ?_, ?_, ?_, ?_, ?_, ?_, ?_, ?_, ?_, ?_, ?_, ?_⟩
    · exact hholds.trans (by simp)
    · rw [settle_link_free (by simpa [replied, taken, dequeued] using hfree)]
      simp [replied, taken, dequeued]
    · rintro ⟨hwas, hnow⟩
      obtain ⟨hstreams, hheat⟩ := quietHolds_heat_enters (s := taken .holdBlocks d rest s) hwas hnow
      exact ⟨(settle_streams _ _).trans hstreams, (settle_heat _ _).trans hheat⟩
    · rintro ⟨hwas, hnow⟩
      obtain ⟨hstreams, hheat⟩ := quietHolds_heat_leaves (s := taken .holdBlocks d rest s) hwas hnow
      exact ⟨(settle_streams _ _).trans hstreams, (settle_heat _ _).trans hheat⟩
    · intro hstay
      obtain ⟨hstreams, hheat⟩ := quietHolds_heat_stays (s := taken .holdBlocks d rest s) hstay
      exact ⟨(settle_streams _ _).trans hstreams, (settle_heat _ _).trans hheat⟩
    · rintro ⟨hwas, hnow⟩
      rw [settle_scanner]
      show stallSeen (quietHolds m (taken .holdBlocks d rest s)).scanner _ = _
      rw [quietHolds_scanner_enters (s := taken .holdBlocks d rest s) hwas hnow]
      rfl
    · rintro ⟨hwas, hnow⟩
      have hscanner := quietHolds_scanner_leaves (s := taken .holdBlocks d rest s) hwas hnow
      rw [settle_scanner]
      show stallSeen (quietHolds m (taken .holdBlocks d rest s)).scanner _ = _
      rw [hscanner]
      show stallSeen (if s.sup.mode = .online then
        (pinEntryFrom s 0).elim .idle (fun x => .scanning x.1 (x.2.first / 256) .none) else .idle) _ = _
      by_cases hmode : s.sup.mode = .online
      · rw [if_pos hmode, if_pos hmode]
        cases pinEntryFrom s 0 <;> rfl
      · rw [if_neg hmode, if_neg hmode]
        rfl
    · rintro ⟨hwas, hnow⟩
      exact settle_reclaimer_held (by simpa [State.held] using hnow)
        (quietHolds_reclaimer (s := taken .holdBlocks d rest s) hwas hnow)
    · intro hnot
      obtain ⟨hhand, _, _⟩ := settle_hand s (replied d .good (.fields [some (headerField d 4 1 % 32)])
        { quietHolds m (taken .holdBlocks d rest s) with
          arbiter := { s.arbiter with service := service }, commands := s.commands })
      refine hhand.trans ?_
      show (quietHolds m (taken .holdBlocks d rest s)).reclaimer.hand = _
      rw [quietHolds_hand]
      · rfl
      · rintro ⟨hwas, hnow⟩
        rcases hnot with ⟨hwas', _⟩ | hstay
        · exact Bool.false_ne_true (hwas.symm.trans hwas')
        · exact Bool.false_ne_true (hwas.symm.trans (hstay.trans hnow))
    · intro hsame
      have hkeep : takeHolds (holdSet d) (taken .holdBlocks d rest s) = taken .holdBlocks d rest s := by
        rw [hm, hsame]
        exact takeHolds_same _
      rw [holdBlocks_step h (by rw [hkeep]), hkeep]
      rfl
    · simp
    · simp
    · simp
    · simp
    · refine (settle_commands_free ?_).trans rfl
      simpa [replied, taken, dequeued] using hfree
    · simp
    · simp
    · simp
  case released =>
    obtain ⟨hwas, hnow⟩ := hleaves
    have htake : takeHolds m (taken .holdBlocks d rest s) = releaseMover (quietHolds m (taken .holdBlocks d rest s)) := by
      rw [takeHolds_eq, changeHold_leaves (by exact hwas) (by simpa [State.held] using hnow)]
    have hstep := holdBlocks_step h (by rw [hm, htake]; simp)
    rw [hm, htake] at hstep
    have hstopped (x : Option Context) : (x.map Context.stopWatchdog).map Context.stopWatchdog =
        x.map Context.stopWatchdog := by
      rw [Option.map_map]
      rfl
    have hmover : (releaseMover (quietHolds m (taken .holdBlocks d rest s))).mover = { s.mover with
        ctx0 := s.mover.ctx0.map Context.stopWatchdog
        ctx1 := s.mover.ctx1.map Context.stopWatchdog } := by simp [releaseMover]
    refine ⟨_, hstep, (settle_holds _ _).1.trans (by simp), ?_, by simp, by simp, by simp, by simp⟩
    rw [settle_mover_untimed]
    · exact hmover
    · show (releaseMover (quietHolds m (taken .holdBlocks d rest s))).mover.ctx0.map _ =
        (releaseMover (quietHolds m (taken .holdBlocks d rest s))).mover.ctx0
      rw [hmover]
      exact hstopped _
    · show (releaseMover (quietHolds m (taken .holdBlocks d rest s))).mover.ctx1.map _ =
        (releaseMover (quietHolds m (taken .holdBlocks d rest s))).mover.ctx1
      rw [hmover]
      exact hstopped _
  case single =>
    obtain ⟨hwas, hnow⟩ := henters
    have htake : takeHolds m (taken .holdBlocks d rest s) = holdMover (withHolds m (taken .holdBlocks d rest s)) := by
      rw [takeHolds_eq, quietHolds_stays (by exact hstays), changeHold_enters (by exact hwas) (by exact hnow)]
    intro services
    have hservices (v : Service) : unawaited v = if v = .awaitAck then .none else v := rfl
    refine ⟨fun slot hpiece hslot => ?idle, fun id q before behind hpiece hlist hid hsent hother => ?sent⟩
    case idle =>
      obtain ⟨hmover, hflag, hholds, hservice, hqueues, hlowest, hparams, hcommands, hscanner, hmap⟩ :=
        holdMover_idle (s := withHolds m (taken .holdBlocks d rest s)) (by exact h0) (by exact h1) (by exact hnow)
          habort hpiece hslot
      have hstep := holdBlocks_step h (by rw [hm, htake, hcommands]; rfl)
      rw [hm, htake] at hstep
      refine ⟨_, hstep, ?_, ?_, ?_, ?_, ?_, ?_, ?_, ?_⟩
      · exact (settle_holds _ _).1.trans hholds
      · rw [settle_mover_untimed]
        · exact hmover
        · show (holdMover (withHolds m (taken .holdBlocks d rest s))).mover.ctx0.map _ =
            (holdMover (withHolds m (taken .holdBlocks d rest s))).mover.ctx0
          rw [hmover]
          rfl
        · show (holdMover (withHolds m (taken .holdBlocks d rest s))).mover.ctx1.map _ =
            (holdMover (withHolds m (taken .holdBlocks d rest s))).mover.ctx1
          rw [hmover]
          rfl
      · rw [settle_flags_other _ _ (by decide) (by decide) (by decide)]
        exact hflag
      · intro k
        rw [settle_arbiter]
        refine (hservice k).trans ?_
        show (if k = x.cls then Service.none else unawaited (s.arbiter.service.get k)) = _
        by_cases hk : k = x.cls
        · simp [hk]
        · simp [hk, hservices]
      · rw [settle_arbiter]
        exact hqueues
      · rw [settle_arbiter]
        exact hlowest
      · have hseen : (settle s (replied d .good (.fields [some (headerField d 4 1 % 32)])
            { holdMover (withHolds m (taken .holdBlocks d rest s)) with commands := s.commands })).scanner =
            stallSeen s.scanner (holdMover (withHolds m (taken .holdBlocks d rest s))) := by
          rw [settle_scanner, stallSeen_congr (s := holdMover (withHolds m (taken .holdBlocks d rest s))) rfl rfl rfl]
          refine Eq.trans (congrArg (fun y => stallSeen y _) ?_) (stallSeen_twice _ _)
          exact hscanner
        refine hseen.trans (stallSeen_congr ?_ ?_ ?_).symm
        · rw [settle_arbiter]
          rfl
        · rw [settle_map]
          rfl
        · rw [settle_params]
          rfl
      · rw [settle_map]
        exact hmap.trans (modifySlot_map_congr slot _ rfl)
    case sent =>
      have hheld := holdMover_single (s := withHolds m (taken .holdBlocks d rest s)) h1
        (abortJob_flash_sent .held (by exact h0) habort hpiece (by exact hlist) hid hsent hother) (by exact h1)
      have hstep := holdBlocks_step h (by rw [hm, htake, hheld]; rfl)
      rw [hm, htake, hheld] at hstep
      have hctx := settle_ctx s (replied d .good (.fields [some (headerField d 4 1 % 32)])
        { holdMover (withHolds m (taken .holdBlocks d rest s)) with commands := s.commands }) .ctx0
      rw [hheld] at hctx
      have hservice (k : JobClass) : (unawaitedAll s.arbiter.service).get k =
          if (fun _ : JobClass => false) k = true ∨ s.arbiter.service.get k = .awaitAck then .none
          else s.arbiter.service.get k := by
        rw [unawaitedAll_get, hservices]
        simp
      have hctx0 : ∃ w, (settle s (replied d .good (.fields [some (headerField d 4 1 % 32)])
          { holdMover (withHolds m (taken .holdBlocks d rest s)) with commands := s.commands })).mover.ctx0 =
          some { x with abort := some .held, watchdog := w } := by
        rw [hheld]
        rcases hctx with hsame | hstopped
        · exact ⟨x.watchdog, hsame⟩
        · exact ⟨none, hstopped⟩
      rw [hheld] at hctx0
      obtain ⟨w, hw⟩ := hctx0
      refine ⟨_, w, hstep, (settle_holds _ _).1.trans rfl, hw, (settle_failure _ _).trans rfl, ?_, ?_, ?_, ?_, ?_⟩
      · rw [settle_flash]
        rfl
      · intro k
        rw [settle_arbiter]
        exact hservice k
      · rw [settle_arbiter]
        rfl
      · rw [settle_arbiter]
        rfl
      · rw [settle_map]
        rfl

end Sys2Proof.Machine
end

section
/-! The Piece Pool and the making of host pieces: facts that the Router's obligations share (R75, R86, R87). -/

namespace Sys2Proof.Machine

open Sys2Proof.Safety

/-! ### Slot writes and the fields they do not read -/

/-- The fields that the making of pieces changes beside the slots. -/
def withHost (commands : List CommandRec) (flash disk : PortUnit) (choice : Nat) (s : State) : State :=
  { s with commands := commands, flash := flash, disk := disk, choice := choice }

theorem putSlot_withHost (i : Nat) (r : SlotRec) (commands : List CommandRec) (flash disk : PortUnit) (choice : Nat)
    (s : State) : putSlot i r (withHost commands flash disk choice s) =
      withHost commands flash disk choice (putSlot i r s) := by
  cases h : s.map.slots[i]? with
  | none => rw [putSlot_absent h, putSlot_absent (by exact h)]
  | some old =>
    unfold withHost putSlot
    dsimp only
    rw [h]
    dsimp only
    by_cases hwakes : wakesHand s.reclaimer.condition s.reclaimer.hand i old r = true
    · rw [if_pos hwakes, if_pos hwakes]
      unfold releaseHand
      by_cases hwaits : s.reclaimer.condition = .waiting ∨ s.reclaimer.condition = .paused
      · rw [if_pos hwaits, if_pos hwaits]
        rfl
      · rw [if_neg hwaits, if_neg hwaits]
    · rw [if_neg hwakes, if_neg hwakes]

theorem modifySlot_withHost (i : Nat) (f : SlotRec → SlotRec) (commands : List CommandRec) (flash disk : PortUnit)
    (choice : Nat) (s : State) : modifySlot i f (withHost commands flash disk choice s) =
      withHost commands flash disk choice (modifySlot i f s) := putSlot_withHost ..

/-! ### Commands -/

theorem findCommand_front {s : State} {r : CommandRec} (h : frontCommand s = some r) : findCommand r.tag s = some r := by
  obtain ⟨t, _, hfind⟩ := Option.bind_eq_some_iff.mp h
  have htag : r.tag = t := by simpa using List.find?_some hfind
  rwa [htag]

theorem find?_map_tag {f : CommandRec → CommandRec} (hf : ∀ x, (f x).tag = x.tag) (t : Nat) (l : List CommandRec) :
    (l.map f).find? (fun x => x.tag == t) = (l.find? (fun x => x.tag == t)).map f := by
  rw [List.find?_map]
  refine congrArg (Option.map f) (congrArg (List.find? · l) (funext fun x => ?_))
  simp [hf]

/-- A change of the records with a tag. -/
def atTag (t : Nat) (f : CommandRec → CommandRec) (l : List CommandRec) : List CommandRec :=
  l.map (fun x => if x.tag = t then f x else x)

theorem updateCommand_eq (t : Nat) (f : CommandRec → CommandRec) (s : State) :
    updateCommand t f s = { s with commands := atTag t f s.commands } := rfl

theorem atTag_atTag {t : Nat} {f : CommandRec → CommandRec} (hf : ∀ x, (f x).tag = x.tag) (g : CommandRec → CommandRec)
    (l : List CommandRec) : atTag t g (atTag t f l) = atTag t (fun x => g (f x)) l := by
  simp only [atTag, List.map_map]
  refine List.map_congr_left fun x _ => ?_
  by_cases hx : x.tag = t
  · simp [hx, hf]
  · simp [hx]

theorem atTag_congr {t : Nat} {f g : CommandRec → CommandRec} (h : ∀ x, x.tag = t → f x = g x) (l : List CommandRec) :
    atTag t f l = atTag t g l := by
  refine List.map_congr_left fun x _ => ?_
  by_cases hx : x.tag = t
  · rw [if_pos hx, if_pos hx, h x hx]
  · rw [if_neg hx, if_neg hx]

theorem atTag_same {t : Nat} {f : CommandRec → CommandRec} (h : ∀ x, f x = x) (l : List CommandRec) : atTag t f l = l := by
  refine (List.map_congr_left fun x _ => ?_).trans (List.map_id l)
  split
  · exact h x
  · rfl

theorem find?_atTag {t : Nat} {f : CommandRec → CommandRec} (hf : ∀ x, (f x).tag = x.tag) {r : CommandRec}
    {l : List CommandRec} (h : l.find? (fun x => x.tag == t) = some r) :
    (atTag t f l).find? (fun x => x.tag == t) = some (f r) := by
  have htag : r.tag = t := by simpa using List.find?_some h
  rw [atTag, find?_map_tag (fun x => by split <;> simp [hf]), h, Option.map_some, if_pos htag]

theorem filter_atTag {t : Nat} {f : CommandRec → CommandRec} (hf : ∀ x, (f x).tag = x.tag) (l : List CommandRec) :
    (atTag t f l).filter (fun x => x.tag != t) = l.filter (fun x => x.tag != t) := by
  induction l with
  | nil => rfl
  | cons x l ih =>
    by_cases hx : x.tag = t
    · rw [atTag, List.map_cons, if_pos hx, List.filter_cons_of_neg (by simp [hf, hx]),
        List.filter_cons_of_neg (by simp [hx])]
      exact ih
    · rw [atTag, List.map_cons, if_neg hx, List.filter_cons_of_pos (by simp [hx]),
        List.filter_cons_of_pos (by simp [hx])]
      exact congrArg (x :: ·) ih

theorem completeIfDone_open {s : State} {t : Nat} {r : CommandRec} (h : findCommand t s = some r) (hopen : r.isDone = false) :
    completeIfDone t s = s := by
  rw [completeIfDone, h]
  exact if_neg (by simp [hopen])

theorem completeIfDone_done {s : State} {t : Nat} {r : CommandRec} (h : findCommand t s = some r) (hdone : r.isDone = true) :
    completeIfDone t s = { s with
      commands := s.commands.filter (fun x => x.tag != t)
      link := { s.link with sent := s.link.sent ++ [⟨t, .media r.status, r.errorLba, .none⟩] } } := by
  rw [completeIfDone, h]
  exact if_pos hdone

/-! ### The pool -/

theorem mem_freeIds {s : State} {i : Nat} :
    i ∈ freeIds s ↔ i < Config.piecePoolSize ∧ i ∉ s.flash.recordIds ∧ i ∉ s.disk.recordIds := by
  simp [freeIds]

/-- A record is free while fewer than 64 are in use (R86). -/
theorem freeIds_ne_nil {s : State} (h : freeRecords s ≠ 0) : freeIds s ≠ [] := by
  intro hnone
  have hall : ∀ i ∈ List.range Config.piecePoolSize, i ∈ s.flash.recordIds ++ s.disk.recordIds := by
    intro i hi
    refine Decidable.byContradiction fun hfree => ?_
    have hmem : i ∈ freeIds s := by
      rw [mem_freeIds]
      simpa [not_or] using And.intro (List.mem_range.mp hi) (by simpa using hfree)
    rw [hnone] at hmem
    exact List.not_mem_nil hmem
  have hle := List.nodup_range.length_le_of_subset hall
  rw [List.length_range, List.length_append] at hle
  simp only [freeRecords, poolInUse] at h
  omega

theorem nextId_mem {s : State} (h : freeRecords s ≠ 0) : nextId s ∈ freeIds s := by
  have hpos : 0 < (freeIds s).length := List.length_pos_iff.mpr (freeIds_ne_nil h)
  have hlt : chosen (freeIds s).length s < (freeIds s).length := Nat.mod_lt _ hpos
  rw [nextId, List.getElem?_eq_getElem hlt, Option.getD_some]
  exact List.getElem_mem hlt

/-! ### Ports -/

theorem joinPort_eq (p : Port) (x : Piece) (s : State) :
    joinPort p x s = setPort p (joined (s.port p) x (maySend p s) (pieceLimit s p)) s := by
  have hsend : maySend p (setPort p { s.port p with list := (s.port p).list ++ [x] } s) = maySend p s := by
    cases p <;> rfl
  have hlimit : pieceLimit (setPort p { s.port p with list := (s.port p).list ++ [x] } s) p = pieceLimit s p := by
    cases p <;> rfl
  rw [joinPort, sendWaiting, hsend, hlimit, joined]
  cases maySend p s <;> cases p <;> rfl

theorem joined_status (u : PortUnit) (x : Piece) (b : Bool) (n : Nat) : (joined u x b n).status = u.status := by
  cases b <;> rfl

theorem joined_recordIds (u : PortUnit) (x : Piece) (b : Bool) (n : Nat) :
    (joined u x b n).list.map (·.id) = u.list.map (·.id) ++ [x.id] ∧ (joined u x b n).withheld = u.withheld := by
  cases b with
  | false => exact ⟨List.map_append, rfl⟩
  | true =>
    refine ⟨?_, rfl⟩
    have hsent (l : List Piece) : (l.map (fun y => if y.state = .waiting then
        { y with state := PieceState.sent, timer := some n } else y)).map (·.id) = l.map (·.id) := by
      rw [List.map_map]
      refine List.map_congr_left fun y _ => ?_
      simp only [Function.comp]
      split <;> rfl
    exact (hsent _).trans List.map_append

/-! ### One host piece -/

/-- The host piece that a specification makes for command `t` (R75). -/
def hostPiece (t : Nat) (q : PieceSpec) (id : Nat) : Piece :=
  ⟨id, .command t, q.op, q.target, q.count, q.buffer, false, .waiting, none⟩

/-- The port `p` after a host piece has been made (R87). -/
def joinsPort (t : Nat) (s : State) (p : Port) (v : PortUnit) (a : PieceSpec × Nat) : PortUnit :=
  if a.1.port = p then joined v (hostPiece t a.1 a.2) (maySend p s) (pieceLimit s p) else v

/-- A flash piece marks its slot (R6, R7). -/
def markSlot (s : State) (q : PieceSpec) : State :=
  match q.target with
  | .flash i _ => modifySlot i (fun r => { r with inflight := r.inflight + 1, referenced := true }) s
  | .disk _ => s
  | .none => s

/-- `k` more pieces are outstanding. -/
def morePieces (k : Nat) (r : CommandRec) : CommandRec := { r with outstanding := r.outstanding + k }

theorem markSlot_withHost (commands : List CommandRec) (flash disk : PortUnit) (choice : Nat) (s : State) (q : PieceSpec) :
    markSlot (withHost commands flash disk choice s) q = withHost commands flash disk choice (markSlot s q) := by
  unfold markSlot
  split
  · exact modifySlot_withHost ..
  · rfl
  · rfl

@[simp] theorem markSlot_frame (s : State) (q : PieceSpec) :
    (markSlot s q).commands = s.commands ∧ (markSlot s q).routing = s.routing ∧ (markSlot s q).link = s.link ∧
    (markSlot s q).flash = s.flash ∧ (markSlot s q).disk = s.disk ∧ (markSlot s q).choice = s.choice ∧
    (markSlot s q).spindle = s.spindle ∧ (markSlot s q).params = s.params ∧ (markSlot s q).accesses = s.accesses ∧
    (markSlot s q).sup = s.sup := by
  unfold markSlot
  split <;> simp

theorem makeHostPiece_eq {t : Nat} {s : State} {q : PieceSpec} (h : forcedAtIssue q.port s = false) :
    makeHostPiece t s q = withHost (atTag t (morePieces 1) s.commands) (joinsPort t s .flash s.flash (q, nextId s))
      (joinsPort t s .disk s.disk (q, nextId s)) (s.choice + 1) (markSlot s q) := by
  obtain ⟨port, op, target, count, buffer⟩ := q
  have hmarked : makeHostPiece t s ⟨port, op, target, count, buffer⟩ =
      joinPort port (hostPiece t ⟨port, op, target, count, buffer⟩ (nextId s))
        (spendChoice (markSlot (updateCommand t CommandRec.addPiece s) ⟨port, op, target, count, buffer⟩)) := by
    unfold makeHostPiece markSlot
    dsimp only
    rw [if_neg (by simp [h])]
    cases target <;> rfl
  have hupdate : updateCommand t CommandRec.addPiece s =
      withHost (atTag t (morePieces 1) s.commands) s.flash s.disk s.choice s := rfl
  rw [hmarked, hupdate, markSlot_withHost, joinPort_eq]
  cases port
  all_goals simp [joinsPort, setPort, State.port, spendChoice, withHost, maySend, pieceLimit]

theorem joinsPort_status (t : Nat) (s : State) (p : Port) (v : PortUnit) (a : PieceSpec × Nat) :
    (joinsPort t s p v a).status = v.status := by
  unfold joinsPort
  split
  · exact joined_status ..
  · rfl

/-- A record more is in use on the port that the piece joins (R86). -/
theorem mem_recordIds_joinsPort {t : Nat} {s : State} {p : Port} {v : PortUnit} {a : PieceSpec × Nat} {i : Nat} :
    i ∈ (joinsPort t s p v a).recordIds ↔ i ∈ v.recordIds ∨ (a.1.port = p ∧ i = a.2) := by
  unfold joinsPort
  split
  next h =>
    obtain ⟨hids, hwithheld⟩ := joined_recordIds v (hostPiece t a.1 a.2) (maySend p s) (pieceLimit s p)
    rw [PortUnit.recordIds, PortUnit.recordIds, hids, hwithheld]
    simp only [List.mem_append, List.mem_singleton, hostPiece, h, true_and]
    exact or_right_comm
  next h => simp [h]

theorem length_recordIds_joinsPort (t : Nat) (s : State) (p : Port) (v : PortUnit) (a : PieceSpec × Nat) :
    (joinsPort t s p v a).recordIds.length = v.recordIds.length + if a.1.port = p then 1 else 0 := by
  unfold joinsPort
  split
  next h =>
    obtain ⟨hids, hwithheld⟩ := joined_recordIds v (hostPiece t a.1 a.2) (maySend p s) (pieceLimit s p)
    simp only [PortUnit.recordIds, hids, hwithheld, List.length_append, List.length_singleton]
    omega
  next h => rfl

/-! ### A run of host pieces -/

section
variable {t : Nat} {s : State} {q : PieceSpec} (hq : forcedAtIssue q.port s = false)
include hq

theorem forcedAtIssue_made (p : Port) : forcedAtIssue p (makeHostPiece t s q) = forcedAtIssue p s := by
  rw [makeHostPiece_eq hq]
  cases p <;> simp [forcedAtIssue, State.port, withHost, joinsPort_status]

theorem freeRecords_made : freeRecords (makeHostPiece t s q) = freeRecords s - 1 := by
  rw [makeHostPiece_eq hq]
  simp only [freeRecords, poolInUse, withHost, length_recordIds_joinsPort]
  cases q.port <;> simp <;> omega

theorem mem_freeIds_made {i : Nat} : i ∈ freeIds (makeHostPiece t s q) ↔ i ∈ freeIds s ∧ i ≠ nextId s := by
  rw [makeHostPiece_eq hq, mem_freeIds, mem_freeIds]
  simp only [withHost, mem_recordIds_joinsPort]
  cases q.port with
  | flash => simp only [reduceCtorEq, true_and, false_and, or_false, not_or, ne_eq, and_assoc, and_comm, and_left_comm]
  | disk => simp only [reduceCtorEq, true_and, false_and, or_false, not_or, ne_eq, and_assoc, and_comm, and_left_comm]

theorem joinsPort_made (p : Port) : joinsPort t (makeHostPiece t s q) p = joinsPort t s p := by
  have hsend : maySend p (makeHostPiece t s q) = maySend p s := by
    rw [makeHostPiece_eq hq]
    cases p <;> simp [maySend, withHost, joinsPort_status]
  have hlimit : pieceLimit (makeHostPiece t s q) p = pieceLimit s p := by cases p <;> simp [pieceLimit]
  unfold joinsPort
  rw [hsend, hlimit]

end

theorem foldl_markSlot_withHost (commands : List CommandRec) (flash disk : PortUnit) (choice : Nat) (l : List PieceSpec) :
    ∀ s : State, l.foldl markSlot (withHost commands flash disk choice s) =
      withHost commands flash disk choice (l.foldl markSlot s) := by
  induction l with
  | nil => exact fun s => rfl
  | cons q l ih =>
    intro s
    rw [List.foldl_cons, List.foldl_cons, markSlot_withHost, ih]

/-- The pieces that one event makes for a command: each takes a free record of its own and joins the end of its port's
list (R75, R86, R87). -/
theorem foldl_makeHostPiece_eq (t : Nat) (l : List PieceSpec) : ∀ s : State,
    (∀ q ∈ l, forcedAtIssue q.port s = false) → l.length ≤ freeRecords s →
    ∃ ids : List Nat, ids.length = l.length ∧ ids.Nodup ∧ (∀ id ∈ ids, id ∈ freeIds s) ∧
      l.foldl (makeHostPiece t) s = withHost (atTag t (morePieces l.length) s.commands)
        ((l.zip ids).foldl (joinsPort t s .flash) s.flash) ((l.zip ids).foldl (joinsPort t s .disk) s.disk)
        (s.choice + l.length) (l.foldl markSlot s) := by
  induction l with
  | nil =>
    intro s _ _
    refine ⟨[], rfl, List.nodup_nil, by simp, ?_⟩
    rw [List.foldl_nil, List.length_nil, atTag_same (f := morePieces 0) fun x => rfl]
    rfl
  | cons q l ih =>
    intro s hforced hroom
    have hq : forcedAtIssue q.port s = false := hforced q List.mem_cons_self
    rw [List.length_cons] at hroom
    obtain ⟨ids, hlength, hnodup, hmem, hfold⟩ := ih (makeHostPiece t s q)
      (fun x hx => (forcedAtIssue_made hq x.port).trans (hforced x (List.mem_cons_of_mem _ hx)))
      (by rw [freeRecords_made hq]; omega)
    have hmem' : ∀ id ∈ ids, id ∈ freeIds s ∧ id ≠ nextId s := fun id hid => (mem_freeIds_made hq).mp (hmem id hid)
    refine ⟨nextId s :: ids, by rw [List.length_cons, List.length_cons, hlength],
      List.nodup_cons.mpr ⟨fun hin => (hmem' _ hin).2 rfl, hnodup⟩, ?_, ?_⟩
    · intro id hid
      rcases List.mem_cons.mp hid with rfl | hid
      · exact nextId_mem (by omega)
      · exact (hmem' id hid).1
    · have hcommands : atTag t (morePieces l.length) (atTag t (morePieces 1) s.commands) =
          atTag t (morePieces (l.length + 1)) s.commands := by
        rw [atTag_atTag (f := morePieces 1) (fun x => rfl)]
        exact atTag_congr (fun x _ => by simp only [morePieces]; congr 1; omega) _
      rw [List.foldl_cons, hfold, joinsPort_made hq, joinsPort_made hq, makeHostPiece_eq hq, foldl_markSlot_withHost,
        List.zip_cons_cons, List.foldl_cons, List.foldl_cons, List.foldl_cons, List.length_cons, ← hcommands]
      simp only [withHost, Nat.add_assoc, Nat.add_comm 1]

end Sys2Proof.Machine
end

section
/-! Sets of offsets: maximal runs, lowest and highest member, intervals (the model's Sets). -/

namespace Sys2Proof.Machine

/-- What the maximal runs of equal kind between `lo` and `hi` are. -/
structure Segmented {α : Type} (kind : Nat → Option α) (lo hi : Nat) (l : List (Segment α)) : Prop where
  within : ∀ g ∈ l, lo ≤ g.run.first ∧ 1 ≤ g.run.count ∧ g.run.first + g.run.count ≤ hi
  kinds : ∀ g ∈ l, ∀ k, g.run.first ≤ k → k < g.run.first + g.run.count → kind k = some g.kind
  covers : ∀ k, lo ≤ k → k < hi → kind k ≠ none → ∃ g ∈ l, g.run.first ≤ k ∧ k < g.run.first + g.run.count
  ordered : l.Pairwise (fun g h => g.run.first + g.run.count ≤ h.run.first)
  maximal : ∀ g ∈ l, ∀ h ∈ l, g.run.first + g.run.count = h.run.first → g.kind ≠ h.kind

section
variable {α : Type} {kind : Nat → Option α} {lo hi : Nat}

theorem Segmented.nil (lo : Nat) : Segmented kind lo lo [] :=
  ⟨by simp, by simp, fun k hlo hhi => absurd hhi (Nat.not_lt_of_le hlo), List.Pairwise.nil, by simp⟩

/-- An offset of no kind before the runs. -/
theorem Segmented.skip {l : List (Segment α)} (h : Segmented kind (lo + 1) hi l) (hnone : kind lo = none) :
    Segmented kind lo hi l := by
  refine ⟨fun g hg => ?_, h.kinds, fun k hlo hhi hk => ?_, h.ordered, h.maximal⟩
  · obtain ⟨hfirst, hcount, hend⟩ := h.within g hg
    exact ⟨by omega, hcount, hend⟩
  · have hne : k ≠ lo := fun heq => hk (heq ▸ hnone)
    exact h.covers k (by omega) hhi hk

/-- An offset of another kind than the run that begins behind it, if one does, is a run of its own. -/
theorem Segmented.single {l : List (Segment α)} {a : α} (h : Segmented kind (lo + 1) hi l) (hle : lo < hi)
    (hkind : kind lo = some a) (hnext : ∀ g ∈ l, g.run.first = lo + 1 → g.kind ≠ a) :
    Segmented kind lo hi (⟨a, ⟨lo, 1⟩⟩ :: l) := by
  refine ⟨?_, ?_, fun k hlo hhi hk => ?_, ?_, ?_⟩
  · rintro g (_ | ⟨_, hg⟩)
    · exact ⟨Nat.le_refl _, Nat.le_refl _, hle⟩
    · obtain ⟨hfirst, hcount, hend⟩ := h.within g hg
      exact ⟨by omega, hcount, hend⟩
  · rintro g (_ | ⟨_, hg⟩) k hk hk'
    · have heq : k = lo := by dsimp only at hk hk'; omega
      rw [heq, hkind]
    · exact h.kinds g hg k hk hk'
  · by_cases heq : k = lo
    · exact ⟨_, List.mem_cons_self, by dsimp only; omega, by dsimp only; omega⟩
    · obtain ⟨g, hg, hin⟩ := h.covers k (by omega) hhi hk
      exact ⟨g, List.mem_cons_of_mem _ hg, hin⟩
  · exact List.pairwise_cons.mpr ⟨fun g hg => (h.within g hg).1, h.ordered⟩
  · rintro g (_ | ⟨_, hg⟩) g' (_ | ⟨_, hg'⟩) hend
    · dsimp only at hend; omega
    · exact fun heq => hnext g' hg' hend.symm heq.symm
    · have := (h.within g hg).1
      dsimp only at hend
      omega
    · exact h.maximal g hg g' hg' hend

/-- An offset of the kind of the run that begins behind it joins that run. -/
theorem Segmented.join {l : List (Segment α)} {a : α} {n : Nat} (h : Segmented kind (lo + 1) hi (⟨a, ⟨lo + 1, n⟩⟩ :: l))
    (hkind : kind lo = some a) : Segmented kind lo hi (⟨a, ⟨lo, n + 1⟩⟩ :: l) := by
  have hhead := h.within _ List.mem_cons_self
  have hafter : ∀ g ∈ l, lo + 1 + n ≤ g.run.first := (List.pairwise_cons.mp h.ordered).1
  refine ⟨?_, ?_, fun k hlo hhi hk => ?_, ?_, ?_⟩
  · rintro g (_ | ⟨_, hg⟩)
    · exact ⟨Nat.le_refl _, by dsimp only; omega, by dsimp only at hhead ⊢; omega⟩
    · obtain ⟨hfirst, hcount, hend⟩ := h.within g (List.mem_cons_of_mem _ hg)
      exact ⟨by omega, hcount, hend⟩
  · rintro g (_ | ⟨_, hg⟩) k hk hk'
    · dsimp only at hk hk' ⊢
      by_cases heq : k = lo
      · rw [heq, hkind]
      · exact h.kinds _ List.mem_cons_self k (by dsimp only; omega) (by dsimp only; omega)
    · exact h.kinds g (List.mem_cons_of_mem _ hg) k hk hk'
  · by_cases heq : k = lo
    · exact ⟨_, List.mem_cons_self, by dsimp only; omega, by dsimp only; omega⟩
    · obtain ⟨g, hg, hin⟩ := h.covers k (by omega) hhi hk
      rcases List.mem_cons.mp hg with rfl | hg
      · exact ⟨_, List.mem_cons_self, by dsimp only at hin ⊢; omega, by dsimp only at hin ⊢; omega⟩
      · exact ⟨g, List.mem_cons_of_mem _ hg, hin⟩
  · refine List.pairwise_cons.mpr ⟨fun g hg => ?_, (List.pairwise_cons.mp h.ordered).2⟩
    have := hafter g hg
    dsimp only
    omega
  · rintro g (_ | ⟨_, hg⟩) g' (_ | ⟨_, hg'⟩) hend
    · dsimp only at hend; omega
    · exact h.maximal _ List.mem_cons_self g' (List.mem_cons_of_mem _ hg') (by dsimp only at hend ⊢; omega)
    · have hfirst := hafter g hg
      dsimp only at hend
      omega
    · exact h.maximal g (List.mem_cons_of_mem _ hg) g' (List.mem_cons_of_mem _ hg') hend

theorem segmentsFrom_segmented [DecidableEq α] (kind : Nat → Option α) : ∀ n lo : Nat,
    Segmented kind lo (lo + n) (segmentsFrom kind n lo)
  | 0, lo => Segmented.nil lo
  | n + 1, lo => by
    have ih := segmentsFrom_segmented kind n (lo + 1)
    rw [show lo + 1 + n = lo + (n + 1) by omega] at ih
    rw [segmentsFrom]
    cases hkind : kind lo with
    | none => exact ih.skip hkind
    | some a =>
      dsimp only
      cases hrest : segmentsFrom kind n (lo + 1) with
      | nil =>
        rw [hrest] at ih
        exact ih.single (by omega) hkind (by simp)
      | cons seg rest =>
        obtain ⟨b, first, count⟩ := seg
        rw [hrest] at ih
        dsimp only
        by_cases hjoin : b = a ∧ first = lo + 1
        · obtain ⟨rfl, rfl⟩ := hjoin
          rw [if_pos ⟨rfl, rfl⟩]
          exact ih.join hkind
        · rw [if_neg hjoin]
          refine ih.single (by omega) hkind ?_
          rintro g (_ | ⟨_, hg⟩) hfirst heq
          · exact hjoin ⟨heq, hfirst⟩
          · have hhead := ih.within _ List.mem_cons_self
            have hafter := (List.pairwise_cons.mp ih.ordered).1 g hg
            dsimp only at hhead hafter
            omega

end

/-! ### The runs of a set -/

theorem runs_eq (b : OffsetSet) :
    ∃ l : List (Segment Unit), runs b = l.map (·.run) ∧ Segmented (fun o => if b.getLsbD o then some () else none) 0 256 l :=
  ⟨_, rfl, segmentsFrom_segmented _ 256 0⟩

theorem getLsbD_of_mem_runs {b : OffsetSet} {q : Run} (h : q ∈ runs b) :
    1 ≤ q.count ∧ q.first + q.count ≤ 256 ∧ ∀ k, q.first ≤ k → k < q.first + q.count → b.getLsbD k = true := by
  obtain ⟨l, hl, hseg⟩ := runs_eq b
  rw [hl, List.mem_map] at h
  obtain ⟨g, hg, rfl⟩ := h
  obtain ⟨_, hcount, hend⟩ := hseg.within g hg
  refine ⟨hcount, hend, fun k hk hk' => ?_⟩
  have := hseg.kinds g hg k hk hk'
  refine Decidable.byContradiction fun hnot => ?_
  simp [hnot] at this

theorem mem_runs_of_getLsbD {b : OffsetSet} {k : Nat} (h : b.getLsbD k = true) :
    ∃ q ∈ runs b, q.first ≤ k ∧ k < q.first + q.count := by
  obtain ⟨l, hl, hseg⟩ := runs_eq b
  obtain ⟨g, hg, hin⟩ := hseg.covers k (Nat.zero_le _) (BitVec.lt_of_getLsbD h) (by simp [h])
  exact ⟨g.run, hl ▸ List.mem_map_of_mem hg, hin⟩

theorem runs_pairwise (b : OffsetSet) : (runs b).Pairwise (fun q q' => q.first + q.count ≤ q'.first) := by
  obtain ⟨l, hl, hseg⟩ := runs_eq b
  rw [hl, List.pairwise_map]
  exact hseg.ordered

theorem runs_eq_nil {b : OffsetSet} : runs b = [] ↔ b = 0#256 := by
  constructor
  · intro hnil
    refine BitVec.eq_of_getLsbD_eq fun k hk => ?_
    refine Decidable.byContradiction fun hne => ?_
    obtain ⟨q, hq, _⟩ := mem_runs_of_getLsbD (b := b) (k := k) (by simpa using hne)
    rw [hnil] at hq
    exact List.not_mem_nil hq
  · intro hzero
    refine List.eq_nil_iff_forall_not_mem.mpr fun q hq => ?_
    obtain ⟨hcount, _, hbits⟩ := getLsbD_of_mem_runs hq
    have := hbits q.first (Nat.le_refl _) (by omega)
    simp [hzero] at this

theorem lowest_eq_some {b : OffsetSet} {k : Nat} :
    lowest b = some k ↔ b.getLsbD k = true ∧ ∀ m, m < k → b.getLsbD m = false := by
  have hleast {q : Run} {rest : List Run} (h : runs b = q :: rest) :
      b.getLsbD q.first = true ∧ ∀ m, m < q.first → b.getLsbD m = false := by
    obtain ⟨hcount, _, hbits⟩ := getLsbD_of_mem_runs (b := b) (q := q) (h ▸ List.mem_cons_self)
    refine ⟨hbits _ (Nat.le_refl _) (by omega), fun m hm => ?_⟩
    refine Decidable.byContradiction fun hset => ?_
    obtain ⟨q', hq', hle, _⟩ := mem_runs_of_getLsbD (b := b) (k := m) (by simpa using hset)
    have hpair := runs_pairwise b
    rw [h] at hq' hpair
    rcases List.mem_cons.mp hq' with rfl | hq'
    · omega
    · have := (List.pairwise_cons.mp hpair).1 q' hq'
      omega
  cases hr : runs b with
  | nil =>
    have hzero := runs_eq_nil.mp hr
    rw [lowest, hr, hzero]
    simp
  | cons q rest =>
    obtain ⟨hset, hbelow⟩ := hleast hr
    rw [lowest, hr, List.head?_cons, Option.map_some, Option.some.injEq]
    constructor
    · rintro rfl
      exact ⟨hset, hbelow⟩
    · rintro ⟨hk, hmin⟩
      rcases Nat.lt_trichotomy q.first k with hlt | heq | hgt
      · exact absurd hset (by simp [hmin _ hlt])
      · exact heq
      · exact absurd hk (by simp [hbelow _ hgt])

theorem lowest_eq_none {b : OffsetSet} : lowest b = none ↔ b = 0#256 := by
  rw [lowest, Option.map_eq_none_iff, List.head?_eq_none_iff, runs_eq_nil]

theorem highest_eq_some {b : OffsetSet} {k : Nat} (hset : b.getLsbD k = true) (habove : ∀ m, k < m → b.getLsbD m = false) :
    highest b = some k := by
  obtain ⟨q, hq, hle, hlt⟩ := mem_runs_of_getLsbD hset
  have hend {q' : Run} (hq' : q' ∈ runs b) : q'.first + q'.count ≤ k + 1 := by
    obtain ⟨hcount, _, hbits⟩ := getLsbD_of_mem_runs hq'
    refine Decidable.byContradiction fun hover => ?_
    have := hbits (q'.first + q'.count - 1) (by omega) (by omega)
    rw [habove _ (by omega)] at this
    contradiction
  obtain ⟨q', hlast⟩ : ∃ q', (runs b).getLast? = some q' :=
    ⟨_, List.getLast?_eq_some_getLast (List.ne_nil_of_mem hq)⟩
  have hmem : q' ∈ runs b := List.mem_of_getLast? hlast
  have hge : q.first + q.count ≤ q'.first + q'.count := by
    obtain ⟨pre, hpre⟩ := List.getLast?_eq_some_iff.mp hlast
    have hpair := runs_pairwise b
    rw [hpre] at hq hpair
    rcases List.mem_append.mp hq with hq | hq
    · have := (List.pairwise_append.mp hpair).2.2 q hq q' (List.mem_singleton.mpr rfl)
      omega
    · exact Nat.le_of_eq (by rw [List.mem_singleton.mp hq])
  have hcount := (getLsbD_of_mem_runs hmem).1
  have := hend hmem
  rw [highest, hlast, Option.map_some]
  congr 1
  omega

theorem rangeSet_getLsbD (first count k : Nat) : (rangeSet first count).getLsbD k =
    (decide (k < 256) && decide (first ≤ k) && decide (k < first + count)) := by
  rw [rangeSet, BitVec.getLsbD_ofNat, Nat.testBit_mul_two_pow, Nat.testBit_two_pow_sub_one, Bool.and_assoc]
  congr 1
  by_cases h : first ≤ k
  · simp only [h, decide_true, Bool.true_and]
    exact decide_eq_decide.mpr (by omega)
  · simp [h]

end Sys2Proof.Machine
end

section
/-! O33, O34, O35, O37, O38. The Router: portions, SYNC and fallback pieces (R67 to R76, R80, R84). -/

namespace Sys2Proof.Machine

open Sys2Proof.Safety

/-! ### The routing event of a portion -/

theorem reportedFirst_frame (o : AccessOrder) (r : CommandRec) (s : State) :
    (reportedFirst o r s).commands = s.commands ∧ (reportedFirst o r s).routing = s.routing ∧
    (reportedFirst o r s).link = s.link ∧ (reportedFirst o r s).flash = s.flash ∧ (reportedFirst o r s).disk = s.disk ∧
    (reportedFirst o r s).spindle = s.spindle ∧ (reportedFirst o r s).params = s.params ∧
    (reportedFirst o r s).choice = s.choice := by
  unfold reportedFirst
  split <;> simp

theorem reportedAccess_none {s : State} {r : CommandRec} (h : s.sup.mode ≠ .online ∨ (r.kind ≠ .read ∧ r.kind ≠ .write)) :
    reportedAccess s r = none := by
  unfold reportedAccess
  rw [if_neg]
  rintro ⟨hkind, _, hmode, _⟩
  rcases h with hoff | ⟨hread, hwrite⟩
  · exact hoff hmode
  · exact hkind.elim hread hwrite

theorem reportedFirst_silent {s : State} {r : CommandRec} (o : AccessOrder) (h : reportedAccess s r = none) :
    reportedFirst o r s = s ∧ inTransit o r s = s.accesses := by
  unfold reportedFirst inTransit
  rw [h]
  exact ⟨rfl, rfl⟩

theorem routePortion_eq {s : State} {r : CommandRec} {pl : Plan} (o : AccessOrder) (hfront : frontCommand s = some r)
    (hplan : planPortion s r = some pl) (hfirst : fallbackFirst s = false) (hroom : pl.pieces.length ≤ freeRecords s) :
    routePortion o s = some { applyPlan r pl (reportedFirst o r s) with
      accesses := inTransit o r (reportedFirst o r s) } := by
  have hsame (u : State) : { applyPlan r pl u with accesses := u.accesses } = applyPlan r pl u := by
    have haccesses : (applyPlan r pl u).accesses = u.accesses := by simp
    rw [← haccesses]
  unfold routePortion
  rw [hfront]
  dsimp only
  rw [hplan]
  dsimp only
  rw [if_neg (by simp [hfirst]; omega)]
  cases hreport : reportedAccess s r with
  | none =>
    obtain ⟨hstate, haccesses⟩ := reportedFirst_silent o hreport
    rw [hstate, haccesses, hsame]
  | some a =>
    cases o with
    | accessFirst =>
      have hstate : reportedFirst .accessFirst r s = takeAccess a s := by
        unfold reportedFirst
        rw [hreport]
      have haccesses : inTransit .accessFirst r (takeAccess a s) = (takeAccess a s).accesses := by
        unfold inTransit
        split <;> trivial
      rw [hstate, haccesses, hsame]
    | routeFirst =>
      have hstate : reportedFirst .routeFirst r s = s := by
        unfold reportedFirst
        rw [hreport]
      have haccesses : inTransit .routeFirst r s = s.accesses ++ [a] := by
        unfold inTransit
        rw [hreport]
      have hkept : (applyPlan r pl s).accesses = s.accesses := by simp
      rw [hstate, haccesses]
      dsimp only
      rw [hkept]

/-- The command's record after a portion (R67, R75, R78). -/
def routedRec (r : CommandRec) (pl : Plan) (x : CommandRec) : CommandRec :=
  { x.merge pl.merges.1 pl.merges.2 with
    outstanding := x.outstanding + pl.pieces.length
    cursor := r.cursor + portionCount r
    routingDone := r.lba + r.count ≤ r.cursor + portionCount r }

/-- The state after a portion's changes, from a state `u` in which the access has been taken where it comes first. -/
def routedBy (r : CommandRec) (pl : Plan) (ids : List Nat) (s u : State) : State :=
  { pl.pieces.foldl markSlot (applySlot pl.slot u) with
    flash := (pl.pieces.zip ids).foldl (joinsPort r.tag s .flash) s.flash
    disk := (pl.pieces.zip ids).foldl (joinsPort r.tag s .disk) s.disk
    commands := atTag r.tag (routedRec r pl) s.commands
    routing := if r.lba + r.count ≤ r.cursor + portionCount r then s.routing.filter (fun t => t != r.tag) else s.routing
    choice := s.choice + pl.pieces.length }

theorem advanceCursor_eq (r : CommandRec) (s : State) : advanceCursor r s = { s with
    commands := atTag r.tag (fun q => { q with
      cursor := r.cursor + portionCount r, routingDone := r.lba + r.count ≤ r.cursor + portionCount r }) s.commands
    routing := if r.lba + r.count ≤ r.cursor + portionCount r then s.routing.filter (fun t => t != r.tag)
      else s.routing } := by
  unfold advanceCursor
  by_cases hlast : r.lba + r.count ≤ r.cursor + portionCount r
  · simp only [hlast, decide_true, if_true]
    rfl
  · simp only [hlast, decide_false, if_false]
    rfl

theorem joinsPort_congr {t : Nat} {s u : State} (hflash : u.flash = s.flash) (hdisk : u.disk = s.disk)
    (hspindle : u.spindle = s.spindle) (hparams : u.params = s.params) (p : Port) : joinsPort t u p = joinsPort t s p := by
  unfold joinsPort
  cases p <;> simp only [maySend, pieceLimit, hflash, hdisk, hspindle, hparams]

theorem forcedAtIssue_congr {s u : State} (hflash : u.flash = s.flash) (hdisk : u.disk = s.disk)
    (hspindle : u.spindle = s.spindle) (p : Port) : forcedAtIssue p u = forcedAtIssue p s := by
  cases p <;> simp only [forcedAtIssue, State.port, hflash, hdisk, hspindle]

theorem pool_congr {s u : State} (hflash : u.flash = s.flash) (hdisk : u.disk = s.disk) :
    freeRecords u = freeRecords s ∧ freeIds u = freeIds s := by
  simp only [freeRecords, poolInUse, freeIds, hflash, hdisk, and_self]

theorem foldl_markSlot_frame (l : List PieceSpec) : ∀ s : State, (l.foldl markSlot s).routing = s.routing ∧
    (l.foldl markSlot s).link = s.link ∧ (l.foldl markSlot s).commands = s.commands := by
  induction l with
  | nil => exact fun s => ⟨rfl, rfl, rfl⟩
  | cons q l ih =>
    intro s
    obtain ⟨hrouting, hlink, hcommands⟩ := ih (markSlot s q)
    rw [List.foldl_cons, hrouting, hlink, hcommands]
    simp

theorem applyPlan_eq {s : State} {r : CommandRec} {pl : Plan} (o : AccessOrder)
    (hforced : ∀ q ∈ pl.pieces, forcedAtIssue q.port s = false) (hroom : pl.pieces.length ≤ freeRecords s) :
    ∃ ids : List Nat, ids.length = pl.pieces.length ∧ ids.Nodup ∧ (∀ id ∈ ids, id ∈ freeIds s) ∧
      applyPlan r pl (reportedFirst o r s) = completeIfDone r.tag (routedBy r pl ids s (reportedFirst o r s)) := by
  obtain ⟨hcommands, hrouting, hlink, hflash, hdisk, hspindle, hparams, hchoice⟩ := reportedFirst_frame o r s
  generalize reportedFirst o r s = u at *
  have hmerged : updateCommand r.tag (fun q => q.merge pl.merges.1 pl.merges.2) (applySlot pl.slot u) =
      withHost (atTag r.tag (fun q => q.merge pl.merges.1 pl.merges.2) s.commands) s.flash s.disk s.choice
        (applySlot pl.slot u) := by
    rw [updateCommand_eq]
    have hc : (applySlot pl.slot u).commands = s.commands := by simp [hcommands]
    have hf : (applySlot pl.slot u).flash = s.flash := by simp [hflash]
    have hd : (applySlot pl.slot u).disk = s.disk := by simp [hdisk]
    have hn : (applySlot pl.slot u).choice = s.choice := by simp [hchoice]
    rw [withHost, ← hc, ← hf, ← hd, ← hn]
  have hspindle' : (applySlot pl.slot u).spindle = s.spindle := by simp [hspindle]
  have hparams' : (applySlot pl.slot u).params = s.params := by simp [hparams]
  obtain ⟨hfree, hids⟩ := pool_congr (s := s) (u := updateCommand r.tag (fun q => q.merge pl.merges.1 pl.merges.2)
    (applySlot pl.slot u)) (by rw [hmerged]; rfl) (by rw [hmerged]; rfl)
  obtain ⟨ids, hlength, hnodup, hmem, hfold⟩ := foldl_makeHostPiece_eq r.tag pl.pieces
    (updateCommand r.tag (fun q => q.merge pl.merges.1 pl.merges.2) (applySlot pl.slot u))
    (fun q hq => (forcedAtIssue_congr (s := s) (by rw [hmerged]; rfl) (by rw [hmerged]; rfl)
      (by rw [hmerged]; exact hspindle') _).trans (hforced q hq)) (by rwa [hfree])
  rw [hids] at hmem
  refine ⟨ids, hlength, hnodup, hmem, ?_⟩
  have hjoins (p : Port) : joinsPort r.tag (updateCommand r.tag (fun q => q.merge pl.merges.1 pl.merges.2)
      (applySlot pl.slot u)) p = joinsPort r.tag s p :=
    joinsPort_congr (by rw [hmerged]; rfl) (by rw [hmerged]; rfl) (by rw [hmerged]; exact hspindle')
      (by rw [hmerged]; exact hparams') p
  rw [applyPlan, hfold, hjoins, hjoins, advanceCursor_eq, hmerged, foldl_markSlot_withHost]
  have hrouted : (pl.pieces.foldl markSlot (applySlot pl.slot u)).routing = s.routing := by
    rw [(foldl_markSlot_frame _ _).1]
    simp [hrouting]
  congr 1
  unfold routedBy
  simp only [withHost, hrouted]
  rw [atTag_atTag (f := morePieces pl.pieces.length) (fun x => rfl),
    atTag_atTag (f := fun q => q.merge pl.merges.1 pl.merges.2) (fun x => rfl)]
  rfl

theorem findCommand_routedBy {s u : State} {r : CommandRec} {pl : Plan} {ids : List Nat}
    (hfront : frontCommand s = some r) : findCommand r.tag (routedBy r pl ids s u) = some (routedRec r pl r) :=
  find?_atTag (f := routedRec r pl) (fun _ => rfl) (findCommand_front hfront)

/-- A portion after which its command goes on. -/
theorem routePortion_open {s : State} {r : CommandRec} {pl : Plan} (o : AccessOrder) (hfront : frontCommand s = some r)
    (hfirst : fallbackFirst s = false) (hplan : planPortion s r = some pl) (hroom : pl.pieces.length ≤ freeRecords s)
    (hforced : ∀ q ∈ pl.pieces, forcedAtIssue q.port s = false)
    (hopen : pl.pieces ≠ [] ∨ r.cursor + portionCount r < r.lba + r.count) :
    ∃ ids : List Nat, ids.length = pl.pieces.length ∧ ids.Nodup ∧ (∀ id ∈ ids, id ∈ freeIds s) ∧
      exec (.routePortion o) s = .next (settle s { routedBy r pl ids s (reportedFirst o r s) with
        accesses := inTransit o r (reportedFirst o r s) }) := by
  obtain ⟨ids, hlength, hnodup, hmem, happly⟩ := applyPlan_eq (r := r) o hforced hroom
  refine ⟨ids, hlength, hnodup, hmem, ?_⟩
  have hexec : exec (.routePortion o) s = .next (event s (routePortion o s)) := rfl
  have hnot : (routedRec r pl r).isDone = false := by
    simp only [CommandRec.isDone, routedRec, Bool.and_eq_false_iff, decide_eq_false_iff_not, beq_eq_false_iff_ne]
    rcases hopen with hpieces | hmore
    · exact Or.inl (Or.inr (by have := List.length_pos_iff.mpr hpieces; omega))
    · exact Or.inl (Or.inl (by omega))
  rw [hexec, routePortion_eq o hfront hplan hfirst hroom, event_some, happly,
    completeIfDone_open (findCommand_routedBy hfront) hnot]

theorem routedBy_none {s : State} {r : CommandRec} {pl : Plan} {ids : List Nat} (o : AccessOrder) (h : pl.pieces = []) :
    routedBy r pl ids s (reportedFirst o r s) = { applySlot pl.slot (reportedFirst o r s) with
      commands := atTag r.tag (routedRec r pl) s.commands
      routing := if r.lba + r.count ≤ r.cursor + portionCount r then s.routing.filter (fun t => t != r.tag)
        else s.routing } := by
  obtain ⟨_, _, _, hflash, hdisk, _, _, hchoice⟩ := reportedFirst_frame o r s
  have hf : (applySlot pl.slot (reportedFirst o r s)).flash = s.flash := by simp [hflash]
  have hd : (applySlot pl.slot (reportedFirst o r s)).disk = s.disk := by simp [hdisk]
  have hn : (applySlot pl.slot (reportedFirst o r s)).choice = s.choice := by simp [hchoice]
  unfold routedBy
  rw [h, List.zip_nil_left, List.foldl_nil, List.foldl_nil, List.foldl_nil, List.length_nil, Nat.add_zero, ← hf, ← hd, ← hn]

/-- A last portion that makes no piece, of a command with nothing outstanding, completes it (R79). -/
theorem routePortion_done {s : State} {r : CommandRec} {pl : Plan} (o : AccessOrder) (hfront : frontCommand s = some r)
    (hfirst : fallbackFirst s = false) (hplan : planPortion s r = some pl) (hpieces : pl.pieces = [])
    (hlast : r.lba + r.count ≤ r.cursor + portionCount r) (hnone : r.outstanding = 0) (hlist : r.fallbackList = []) :
    exec (.routePortion o) s = .next (settle s { applySlot pl.slot (reportedFirst o r s) with
      commands := s.commands.filter (fun x => x.tag != r.tag)
      routing := s.routing.filter (fun t => t != r.tag)
      link := { s.link with sent := s.link.sent ++
        [⟨r.tag, .media (r.merge pl.merges.1 pl.merges.2).status, (r.merge pl.merges.1 pl.merges.2).errorLba, .none⟩] }
      accesses := inTransit o r (reportedFirst o r s) }) := by
  have hroom : pl.pieces.length ≤ freeRecords s := by simp [hpieces]
  obtain ⟨ids, hlength, _, _, happly⟩ := applyPlan_eq (r := r) (pl := pl) o (by simp [hpieces]) hroom
  have hexec : exec (.routePortion o) s = .next (event s (routePortion o s)) := rfl
  have hdone : (routedRec r pl r).isDone = true := by
    simp [CommandRec.isDone, routedRec, hpieces, hnone, hlist, hlast, CommandRec.merge]
  have hcommands : (atTag r.tag (routedRec r pl) s.commands).filter (fun x => x.tag != r.tag) =
      s.commands.filter (fun x => x.tag != r.tag) := filter_atTag (f := routedRec r pl) (fun x => rfl) _
  have hkept : (applySlot pl.slot (reportedFirst o r s)).link = s.link := by
    simp [(reportedFirst_frame o r s).2.2.1]
  rw [hexec, routePortion_eq o hfront hplan hfirst hroom, event_some, happly,
    completeIfDone_done (findCommand_routedBy hfront) hdone, routedBy_none o hpieces]
  dsimp only
  rw [hcommands, hkept, if_pos hlast]
  rfl

theorem worse_good (a : MediaStatus) : a.worse .good = a := by cases a <;> rfl

theorem merge_good (r : CommandRec) : r.merge .good none = r := by
  rw [CommandRec.merge, worse_good]
  cases h : r.errorLba <;> simp only [lowerLba, ← h]

/-- Settles O33. -/
theorem routeTrim : Obligations.RouteTrim := by
  unfold Obligations.RouteTrim
  intro s r o hfront hkind hfirst n O u
  obtain ⟨hstate, haccesses⟩ := reportedFirst_silent (s := s) (r := r) o
    (reportedAccess_none (Or.inr (by simp [hkind])))
  have hplan : planPortion s r = some (planTrim s r) := by
    unfold planPortion
    rw [hkind]
  have htrim : (planTrim s r).pieces = [] ∧ (planTrim s r).merges = (.good, none) ∧ applySlot (planTrim s r).slot s = u := by
    unfold planTrim
    cases hbound : s.map.bound (portionChunk r) with
    | none =>
      have hu : u = s := by
        simp only [u]
        rw [show s.map.bound (r.cursor / 256) = none from hbound]
      exact ⟨rfl, rfl, hu.symm⟩
    | some x =>
      obtain ⟨i, q⟩ := x
      have hu : u = putSlot i (q.drop (portionOffsets r)) s := by
        simp only [u]
        rw [show s.map.bound (r.cursor / 256) = some (i, q) from hbound]
        rfl
      exact ⟨rfl, rfl, hu.symm⟩
  obtain ⟨hpieces, hmerges, hslot⟩ := htrim
  have hu : u = applySlot (planTrim s r).slot s := hslot.symm
  refine ⟨fun hmore => ?_, fun hlast hnone hlist => ?_⟩
  · obtain ⟨ids, _, _, _, hexec⟩ := routePortion_open o hfront hfirst hplan (by simp [hpieces]) (by simp [hpieces])
      (Or.inr hmore)
    have hgoes : ¬ r.lba + r.count ≤ r.cursor + portionCount r := Nat.not_le_of_lt hmore
    have hrecord : atTag r.tag (routedRec r (planTrim s r)) s.commands = atTag r.tag (fun x => { x with
        cursor := r.cursor + n, routingDone := false }) s.commands := by
      refine atTag_congr (fun x _ => ?_) _
      rw [routedRec, hmerges, hpieces, merge_good, decide_eq_false hgoes]
      rfl
    rw [hexec, routedBy_none o hpieces, hstate, haccesses, hslot, hrecord, if_neg hgoes]
    have hkept : u.accesses = s.accesses ∧ u.routing = s.routing := by rw [hu]; simp
    obtain ⟨hacc, hrouting⟩ := hkept
    dsimp only
    rw [← hacc, ← hrouting]
    rfl
  · rw [routePortion_done o hfront hfirst hplan hpieces hlast hnone hlist, hstate, haccesses, hmerges, hslot, merge_good]
    have hacc : u.accesses = s.accesses := by rw [hu]; simp
    rw [← hacc]

/-! ### Portions that make one piece -/

/-- A portion that makes one piece and merges nothing (R67, R75, R87). -/
theorem routePortion_single {s : State} {r : CommandRec} {q : PieceSpec} {slot : Option (Nat × SlotRec)} (o : AccessOrder)
    (hfront : frontCommand s = some r) (hfirst : fallbackFirst s = false)
    (hplan : planPortion s r = some ⟨[q], slot, .good, none⟩) (hroom : freeRecords s ≠ 0)
    (hforced : forcedAtIssue q.port s = false) :
    ∃ id ∈ freeIds s, exec (.routePortion o) s = .next (settle s {
      markSlot (applySlot slot (reportedFirst o r s)) q with
      flash := joinsPort r.tag s .flash s.flash (q, id)
      disk := joinsPort r.tag s .disk s.disk (q, id)
      commands := s.commands.map (fun x => if x.tag = r.tag then { x with
        outstanding := x.outstanding + 1, cursor := r.cursor + portionCount r,
        routingDone := r.lba + r.count ≤ r.cursor + portionCount r } else x)
      routing := if r.lba + r.count ≤ r.cursor + portionCount r then s.routing.filter (fun t => t != r.tag)
        else s.routing
      accesses := inTransit o r (reportedFirst o r s)
      choice := s.choice + 1 }) := by
  obtain ⟨ids, hlength, _, hmem, hexec⟩ := routePortion_open o hfront hfirst hplan (by simp; omega)
    (by simpa using hforced) (Or.inl (by simp))
  obtain ⟨id, rfl⟩ := List.length_eq_one_iff.mp hlength
  refine ⟨id, hmem id List.mem_cons_self, ?_⟩
  have hrecord : atTag r.tag (routedRec r ⟨[q], slot, .good, none⟩) s.commands = atTag r.tag (fun x => { x with
      outstanding := x.outstanding + 1, cursor := r.cursor + portionCount r,
      routingDone := r.lba + r.count ≤ r.cursor + portionCount r }) s.commands := by
    refine atTag_congr (fun x _ => ?_) _
    rw [routedRec, merge_good]
    rfl
  rw [hexec, routedBy, hrecord]
  rfl

theorem joinsPort_other {t : Nat} {s : State} {p : Port} {v : PortUnit} {a : PieceSpec × Nat} (h : a.1.port ≠ p) :
    joinsPort t s p v a = v := if_neg h

theorem forcedAtIssue_disk {s : State} (hstatus : s.disk.status ≠ .faulted) (hretry : s.spindle.retryTimer = none) :
    forcedAtIssue .disk s = false := by
  simp [forcedAtIssue, State.port, hstatus, hretry]

theorem forcedAtIssue_flash {s : State} (hstatus : s.flash.status ≠ .faulted) : forcedAtIssue .flash s = false := by
  simp [forcedAtIssue, State.port, hstatus]

/-- A portion that one disk piece covers (R69, R71, R84). -/
theorem routePortion_disk {s u : State} {r : CommandRec} {slot : Option (Nat × SlotRec)} {op : PieceOp} (o : AccessOrder)
    (hfront : frontCommand s = some r) (hfirst : fallbackFirst s = false)
    (hplan : planPortion s r = some ⟨[diskPortion r op], slot, .good, none⟩) (hroom : freeRecords s ≠ 0)
    (hstatus : s.disk.status ≠ .faulted) (hretry : s.spindle.retryTimer = none)
    (hu : applySlot slot (reportedFirst o r s) = u) :
    ∃ id ∈ freeIds s, exec (.routePortion o) s = .next (settle s { u with
      disk := joined s.disk ⟨id, .command r.tag, op, .disk r.cursor, portionCount r,
        .host r.buffer (r.cursor - r.lba), false, .waiting, none⟩ (maySend .disk s) (pieceLimit s .disk)
      commands := s.commands.map (fun x => if x.tag = r.tag then { x with
        outstanding := x.outstanding + 1, cursor := r.cursor + portionCount r,
        routingDone := r.lba + r.count ≤ r.cursor + portionCount r } else x)
      routing := if r.lba + r.count ≤ r.cursor + portionCount r then s.routing.filter (fun t => t != r.tag)
        else s.routing
      accesses := inTransit o r (reportedFirst o r s)
      choice := s.choice + 1 }) := by
  obtain ⟨id, hid, hexec⟩ := routePortion_single o hfront hfirst hplan hroom (forcedAtIssue_disk hstatus hretry)
  have hflash : u.flash = s.flash := by
    obtain ⟨_, _, _, hkept, _⟩ := reportedFirst_frame o r s
    rw [← hu]
    simp [hkept]
  refine ⟨id, hid, ?_⟩
  have hdisk : joinsPort r.tag s .disk s.disk (diskPortion r op, id) = joined s.disk
      (hostPiece r.tag (diskPortion r op) id) (maySend .disk s) (pieceLimit s .disk) := if_pos rfl
  rw [hexec, hu, joinsPort_other (p := .flash) (by simp [diskPortion]), hdisk, ← hflash]
  rfl

theorem planPortion_read {s : State} {r : CommandRec} (h : r.kind = .read) :
    planPortion s r = some (if s.sup.mode = .flashLost then planReadLost s r else planRead s r) := by
  unfold planPortion
  rw [h]

theorem planPortion_write {s : State} {r : CommandRec} (h : r.kind = .write) :
    planPortion s r = some (if s.sup.mode = .flashLost then planWriteLost s r else planWrite s r) := by
  unfold planPortion
  rw [h]

section
variable {s : State} {r : CommandRec}

theorem planRead_unbound (h : s.map.bound (portionChunk r) = none) :
    planRead s r = ⟨[diskPortion r .read], none, .good, none⟩ := by
  unfold planRead
  rw [h]

theorem planRead_bound {i : Nat} {q : SlotRec} (h : s.map.bound (portionChunk r) = some (i, q)) :
    planRead s r = ⟨readPieces r i q.valid, none, .good, none⟩ := by
  unfold planRead
  rw [h]

theorem planWrite_bound {i : Nat} {q : SlotRec} (h : s.map.bound (portionChunk r) = some (i, q)) :
    planWrite s r = ⟨[flashPortion r i], some (i, q.written (portionOffsets r)), .good, none⟩ := by
  unfold planWrite
  rw [h]

theorem planWrite_absorbed {i : Nat} (h : s.map.bound (portionChunk r) = none) (habsorbs : absorbs s r = true)
    (hfree : s.map.lowestFree = some i) :
    planWrite s r = ⟨[flashPortion r i], some (i, absorbed s r), .good, none⟩ := by
  unfold planWrite
  rw [h]
  dsimp only
  rw [if_pos habsorbs, hfree]

theorem planWrite_around (h : s.map.bound (portionChunk r) = none)
    (hnot : absorbs s r = false ∨ s.map.lowestFree = none) :
    planWrite s r = ⟨[diskPortion r .write], none, .good, none⟩ := by
  unfold planWrite
  rw [h]
  dsimp only
  by_cases habsorbs : absorbs s r = true
  · rw [if_pos habsorbs, hnot.resolve_left (by simp [habsorbs])]
  · rw [if_neg habsorbs]

theorem planReadLost_unbound (h : s.map.bound (portionChunk r) = none) :
    planReadLost s r = ⟨[diskPortion r .read], none, .good, none⟩ := by
  unfold planReadLost
  rw [h]

theorem planReadLost_clean {i : Nat} {q : SlotRec} (h : s.map.bound (portionChunk r) = some (i, q))
    (hclean : q.dirty &&& portionOffsets r = 0#256) :
    planReadLost s r = ⟨[diskPortion r .read], none, .good, none⟩ := by
  unfold planReadLost
  rw [h]
  dsimp only
  rw [lowest_eq_none.mpr hclean]

theorem planReadLost_dirty {i k : Nat} {q : SlotRec} (h : s.map.bound (portionChunk r) = some (i, q))
    (hdirty : (q.dirty &&& portionOffsets r).getLsbD k = true)
    (hleast : ∀ m, m < k → (q.dirty &&& portionOffsets r).getLsbD m = false) :
    planReadLost s r = ⟨[], none, .flashUnavailable, some (portionChunk r * 256 + k)⟩ := by
  unfold planReadLost
  rw [h]
  dsimp only
  rw [lowest_eq_some.mpr ⟨hdirty, hleast⟩]

theorem planWriteLost_unbound (h : s.map.bound (portionChunk r) = none) :
    planWriteLost s r = ⟨[diskPortion r .write], none, .good, none⟩ := by
  unfold planWriteLost
  rw [h]

theorem planWriteLost_bound {i : Nat} {q : SlotRec} (h : s.map.bound (portionChunk r) = some (i, q)) :
    planWriteLost s r = ⟨[diskPortion r .write], some (i, q.drop (portionOffsets r)), .good, none⟩ := by
  unfold planWriteLost
  rw [h]

end

/-- Settles O34. -/
theorem routeDiskPortion : Obligations.RouteDiskPortion := by
  unfold Obligations.RouteDiskPortion
  intro s r o hfront hfirst n O last chunk
  refine ⟨fun u hroom hstatus hretry hcases => ?whole, fun i q k hmode hkind hbound hdirty hleast => ?refused⟩
  case whole =>
    have hlost (hmode : s.sup.mode = .flashLost) : reportedFirst o r s = s := by
      have hoff : s.sup.mode ≠ .online := by simp [hmode]
      exact (reportedFirst_silent o (reportedAccess_none (Or.inl hoff))).1
    have hread (h : r.kind = .read) : (if r.kind = .read then PieceOp.read else .write) = .read := if_pos h
    have hwrite (h : r.kind = .write) : (if r.kind = .read then PieceOp.read else .write) = .write := if_neg (by simp [h])
    obtain ⟨slot, hplan, hu⟩ : ∃ slot, planPortion s r =
        some ⟨[diskPortion r (if r.kind = .read then .read else .write)], slot, .good, none⟩ ∧
        applySlot slot (reportedFirst o r s) = u := by
      rcases hcases with ⟨hmode, hbound, rfl, hkind | ⟨hkind, hnot⟩⟩ | ⟨hmode, hbound, rfl, hkind | hkind⟩ |
        ⟨hmode, hkind, rfl, i, q, hbound, hclean⟩ | ⟨hmode, hkind, i, q, hbound, rfl⟩
      · exact ⟨none, by rw [planPortion_read hkind, if_neg hmode, planRead_unbound hbound, hread hkind], rfl⟩
      · exact ⟨none, by rw [planPortion_write hkind, if_neg hmode, planWrite_around hbound hnot, hwrite hkind], rfl⟩
      · exact ⟨none, by rw [planPortion_read hkind, if_pos hmode, planReadLost_unbound hbound, hread hkind], hlost hmode⟩
      · exact ⟨none, by rw [planPortion_write hkind, if_pos hmode, planWriteLost_unbound hbound, hwrite hkind], hlost hmode⟩
      · exact ⟨none, by rw [planPortion_read hkind, if_pos hmode, planReadLost_clean hbound hclean, hread hkind], hlost hmode⟩
      · refine ⟨_, by rw [planPortion_write hkind, if_pos hmode, planWriteLost_bound hbound, hwrite hkind], ?_⟩
        rw [hlost hmode]
        rfl
    obtain ⟨id, hid, hexec⟩ := routePortion_disk o hfront hfirst hplan hroom hstatus hretry hu
    refine ⟨id, hid, ?_⟩
    simp only [last, decide_eq_true_eq]
    exact hexec
  case refused =>
    intro lba
    have hoff : s.sup.mode ≠ .online := by simp [hmode]
    obtain ⟨hstate, haccesses⟩ := reportedFirst_silent (s := s) (r := r) o (reportedAccess_none (Or.inl hoff))
    have hplan : planPortion s r = some ⟨[], none, .flashUnavailable, some (chunk * 256 + k)⟩ := by
      rw [planPortion_read hkind, if_pos hmode, planReadLost_dirty hbound hdirty hleast]
      rfl
    refine ⟨fun hmore => ?_, fun hlast hnone hlist => ?_⟩
    · have hgoes : r.cursor + portionCount r < r.lba + r.count := Nat.lt_of_not_le (of_decide_eq_false hmore)
      obtain ⟨ids, _, _, _, hexec⟩ := routePortion_open o hfront hfirst hplan (by simp) (by simp) (Or.inr hgoes)
      rw [hexec, routedBy_none o rfl, hstate, haccesses, if_neg (Nat.not_le_of_lt hgoes)]
      have hrecord : atTag r.tag (routedRec r ⟨[], none, .flashUnavailable, some (chunk * 256 + k)⟩) s.commands =
          atTag r.tag (fun x => { x with
            status := x.status.worse .flashUnavailable, errorLba := lowerLba x.errorLba (some (chunk * 256 + k))
            cursor := r.cursor + n, routingDone := false }) s.commands := by
        refine atTag_congr (fun x _ => ?_) _
        rw [routedRec, decide_eq_false (Nat.not_le_of_lt hgoes)]
        rfl
      rw [hrecord]
      rfl
    · rw [routePortion_done o hfront hfirst hplan rfl (of_decide_eq_true hlast) hnone hlist, hstate, haccesses]
      rfl

/-- Settles O35. -/
theorem routeFlashWrite : Obligations.RouteFlashWrite := by
  unfold Obligations.RouteFlashWrite
  intro s r o i w hfront hfirst hkind hmode hroom hstatus n O last hcases
  have hplan : planPortion s r = some ⟨[flashPortion r i], some (i, w), .good, none⟩ := by
    rw [planPortion_write hkind, if_neg (by simp [hmode])]
    rcases hcases with ⟨q, hbound, rfl⟩ | ⟨hbound, habsorbs, hfree, rfl⟩
    · rw [planWrite_bound hbound]
      rfl
    · rw [planWrite_absorbed hbound habsorbs hfree]
      rfl
  obtain ⟨id, hid, hexec⟩ := routePortion_single o hfront hfirst hplan hroom (forcedAtIssue_flash hstatus)
  refine ⟨id, hid, ?_⟩
  have hflash : joinsPort r.tag s .flash s.flash (flashPortion r i, id) = joined s.flash
      (hostPiece r.tag (flashPortion r i) id) (maySend .flash s) (pieceLimit s .flash) := if_pos rfl
  have hdisk : (markSlot (applySlot (some (i, w)) (reportedFirst o r s)) (flashPortion r i)).disk = s.disk := by
    obtain ⟨_, _, _, _, hkept, _⟩ := reportedFirst_frame o r s
    simp [hkept]
  rw [hexec, hflash, joinsPort_other (p := .disk) (by simp [flashPortion]), ← hdisk]
  simp only [last, decide_eq_true_eq]
  rfl

end Sys2Proof.Machine
end

section
/-! O37, O38. SYNC and the fallback pieces of runs that wait (R74, R80). -/

namespace Sys2Proof.Machine

open Sys2Proof.Safety

/-! ### One command's record among others -/

section
variable {before behind : List CommandRec} {r : CommandRec}

theorem atTag_middle (f : CommandRec → CommandRec) (h : ∀ x ∈ before ++ behind, x.tag ≠ r.tag) :
    atTag r.tag f (before ++ r :: behind) = before ++ f r :: behind := by
  have hother {l : List CommandRec} (hl : ∀ x ∈ l, x.tag ≠ r.tag) : atTag r.tag f l = l :=
    (List.map_congr_left fun x hx => if_neg (hl x hx)).trans (List.map_id l)
  rw [atTag, List.map_append, List.map_cons, if_pos rfl]
  rw [← atTag, ← atTag, hother fun x hx => h x (List.mem_append_left _ hx),
    hother fun x hx => h x (List.mem_append_right _ hx)]

theorem find?_tag_middle (h : ∀ x ∈ before ++ behind, x.tag ≠ r.tag) :
    (before ++ r :: behind).find? (fun x => x.tag == r.tag) = some r := by
  rw [List.find?_append, List.find?_eq_none.mpr, Option.none_or, List.find?_cons_of_pos (by simp)]
  intro x hx
  simpa using h x (List.mem_append_left _ hx)

theorem filter_tag_middle (h : ∀ x ∈ before ++ behind, x.tag ≠ r.tag) :
    (before ++ r :: behind).filter (fun x => x.tag != r.tag) = before ++ behind := by
  rw [List.filter_append, List.filter_cons_of_neg (by simp), ← List.filter_append]
  exact List.filter_eq_self.mpr fun x hx => by simpa using h x hx

end

/-! ### SYNC -/

theorem foldl_markSlot_of_none {l : List PieceSpec} (h : ∀ q ∈ l, q.target = .none) (s : State) : l.foldl markSlot s = s := by
  induction l generalizing s with
  | nil => rfl
  | cons q l ih =>
    have hq : markSlot s q = s := by
      unfold markSlot
      rw [h q List.mem_cons_self]
    rw [List.foldl_cons, hq]
    exact ih (fun x hx => h x (List.mem_cons_of_mem _ hx)) s

theorem syncPieces_target {s : State} {q : PieceSpec} (h : q ∈ syncPieces s) : q.target = .none := by
  unfold syncPieces at h
  rcases List.mem_append.mp h with h | h
  all_goals
    split at h
    · rw [List.mem_singleton.mp h]
    · exact absurd h List.not_mem_nil

/-- The record of a SYNC that is routed with `k` pieces (R74). -/
def syncRec (k : Nat) (x : CommandRec) : CommandRec := { x with outstanding := x.outstanding + k, routingDone := true }

/-- The routing event of a SYNC, by the pieces it makes (R74). -/
theorem routeSync_made {s : State} {r : CommandRec} {l : List PieceSpec} (hfront : frontCommand s = some r)
    (hkind : r.kind = .sync) (hfirst : fallbackFirst s = false) (hl : syncPieces s = l) (hroom : l.length ≤ freeRecords s)
    (hflash : s.flash.status ≠ .faulted) (hdisk : s.disk.status ≠ .faulted) (hretry : s.spindle.retryTimer = none) :
    ∃ ids : List Nat, ids.length = l.length ∧ ids.Nodup ∧ (∀ id ∈ ids, id ∈ freeIds s) ∧
      exec .routeSync s = .next (settle s (completeIfDone r.tag { s with
        flash := (l.zip ids).foldl (joinsPort r.tag s .flash) s.flash
        disk := (l.zip ids).foldl (joinsPort r.tag s .disk) s.disk
        commands := atTag r.tag (syncRec l.length) s.commands
        routing := s.routing.filter (fun t => t != r.tag)
        choice := s.choice + l.length })) := by
  have hforced : ∀ q ∈ l, forcedAtIssue q.port s = false := by
    intro q _
    cases q.port
    · exact forcedAtIssue_flash hflash
    · exact forcedAtIssue_disk hdisk hretry
  obtain ⟨ids, hlength, hnodup, hmem, hfold⟩ := foldl_makeHostPiece_eq r.tag l s hforced hroom
  refine ⟨ids, hlength, hnodup, hmem, ?_⟩
  have hexec : exec .routeSync s = .next (event s (routeSync s)) := rfl
  have hmarks : l.foldl markSlot s = s := foldl_markSlot_of_none (fun q hq => syncPieces_target (hl ▸ hq)) s
  have hroute : routeSync s = some (completeIfDone r.tag { updateCommand r.tag (fun q => { q with routingDone := true })
      (l.foldl (makeHostPiece r.tag) s) with
      routing := (l.foldl (makeHostPiece r.tag) s).routing.filter (fun t => t != r.tag) }) := by
    unfold routeSync
    rw [hfront]
    dsimp only
    rw [hl, if_neg (by simp [hkind, hfirst]; omega)]
    rfl
  rw [hexec, hroute, event_some, hfold, hmarks, updateCommand_eq]
  dsimp only [withHost]
  rw [atTag_atTag (f := morePieces l.length) (fun _ => rfl)]
  rfl

/-- Settles O37. -/
theorem routeSyncSettled : Obligations.RouteSync := by
  unfold Obligations.RouteSync
  intro s r hfront hkind hfirst hnone hlist hflash hdisk hretry piece routed
  have hmade {l : List PieceSpec} (hl : syncPieces s = l) (hroom : l.length ≤ freeRecords s) :=
    routeSync_made hfront hkind hfirst hl hroom hflash hdisk hretry
  have hfind (k : Nat) : (atTag r.tag (syncRec k) s.commands).find? (fun x => x.tag == r.tag) = some (syncRec k r) :=
    find?_atTag (f := syncRec k) (fun _ => rfl) (findCommand_front hfront)
  have hopen (k : Nat) : (syncRec (k + 1) r).isDone = false := by simp [CommandRec.isDone, syncRec]
  refine ⟨fun hmode hspindle => ?_, fun hmode hspindle hroom => ?_, fun hmode hspindle hroom => ?_,
    fun hmode hspindle hroom => ?_⟩
  · obtain ⟨ids, hlength, _, _, hexec⟩ := hmade (l := []) (by simp [syncPieces, hmode, hspindle]) (by simp)
    rw [hexec, completeIfDone_done (r := syncRec 0 r) (by exact hfind 0) (by simp [CommandRec.isDone, syncRec, hnone, hlist])]
    have hfilter : (atTag r.tag (syncRec 0) s.commands).filter (fun x => x.tag != r.tag) =
        s.commands.filter (fun x => x.tag != r.tag) := filter_atTag (f := syncRec 0) (fun _ => rfl) _
    dsimp only [List.length_nil]
    rw [hfilter]
    rfl
  · obtain ⟨ids, hlength, _, hmem, hexec⟩ := hmade (l := [⟨.flash, .sync, .none, 0, .none⟩])
      (by simp [syncPieces, hmode, hspindle]) (by simp; omega)
    obtain ⟨id, rfl⟩ := List.length_eq_one_iff.mp hlength
    refine ⟨id, hmem id List.mem_cons_self, ?_⟩
    rw [hexec, completeIfDone_open (r := syncRec 1 r) (by exact hfind 1) (hopen 0)]
    rfl
  · obtain ⟨ids, hlength, _, hmem, hexec⟩ := hmade (l := [⟨.disk, .sync, .none, 0, .none⟩])
      (by simp [syncPieces, hmode, hspindle]) (by simp; omega)
    obtain ⟨id, rfl⟩ := List.length_eq_one_iff.mp hlength
    refine ⟨id, hmem id List.mem_cons_self, ?_⟩
    rw [hexec, completeIfDone_open (r := syncRec 1 r) (by exact hfind 1) (hopen 0)]
    rfl
  · obtain ⟨ids, hlength, hnodup, hmem, hexec⟩ :=
      hmade (l := [⟨.flash, .sync, .none, 0, .none⟩, ⟨.disk, .sync, .none, 0, .none⟩])
        (by simp [syncPieces, hmode, hspindle]) (by simpa using hroom)
    obtain ⟨id, id', rfl⟩ : ∃ id id', ids = [id, id'] :=
      match ids, hlength with
      | [id, id'], _ => ⟨id, id', rfl⟩
    refine ⟨id, hmem id (by simp), id', hmem id' (by simp), by simpa [eq_comm] using hnodup, ?_⟩
    rw [hexec, completeIfDone_open (r := syncRec 2 r) (by exact hfind 2) (hopen 1)]
    rfl

/-! ### Fallback pieces -/

/-- A fallback piece for a run, made with a free record (R80). -/
theorem makeFallback_made {s : State} {r : CommandRec} {before behind : List CommandRec} {run : Nat × Nat}
    (hcommands : s.commands = before ++ r :: behind) (hother : ∀ x ∈ before ++ behind, x.tag ≠ r.tag)
    (hroom : freeRecords s ≠ 0) (hforced : forcedAtIssue .disk s = false) :
    makeFallback r.tag s run = { s with
      disk := joined s.disk ⟨nextId s, .command r.tag, .read, .disk run.1, run.2, .host r.buffer (run.1 - r.lba), false,
        .waiting, none⟩ (maySend .disk s) (pieceLimit s .disk)
      commands := before ++ { r with
        outstanding := r.outstanding + 1, fallbackPieces := r.fallbackPieces ++ [nextId s] } :: behind
      choice := s.choice + 1 } := by
  have hfind : findCommand r.tag s = some r := by rw [findCommand, hcommands, find?_tag_middle hother]
  rw [makeFallback, hfind]
  dsimp only
  rw [if_neg hroom, if_neg (by simp [hforced]), joinPort_eq, updateCommand_eq, hcommands, atTag_middle _ hother]
  rfl

/-- Settles O38. -/
theorem fallbackPieceMade : Obligations.FallbackPieceMade := by
  unfold Obligations.FallbackPieceMade
  intro s
  have hexec : exec .fallbackPieceMake s = .next (event s (fallbackPieceMake s)) := rfl
  refine ⟨fun hnot => ?_, fun r before behind run hcommands hrun hother hroom hstatus hretry => ?_⟩
  · rw [hexec, fallbackPieceMake, if_neg (by simp [hnot])]
    rfl
  · have hfirst : fallbackFirst s = true := by
      simp [fallbackFirst, fallbackWaiting, hcommands, hrun, hroom]
    have hruns : waitingRuns s = [(r.tag, run)] := by
      have hempty {l : List CommandRec} (hl : ∀ x ∈ l, x.fallbackList = []) :
          l.flatMap (fun x => x.fallbackList.map (fun q => (x.tag, q))) = [] := by
        rw [List.flatMap_eq_nil_iff]
        exact fun x hx => by rw [hl x hx, List.map_nil]
      rw [waitingRuns, hcommands, List.flatMap_append, List.flatMap_cons,
        hempty fun x hx => (hother x (List.mem_append_left _ hx)).1,
        hempty fun x hx => (hother x (List.mem_append_right _ hx)).1, hrun]
      rfl
    have htags : ∀ x ∈ before ++ behind, x.tag ≠ r.tag := fun x hx => (hother x hx).2
    have hdropped : updateCommand r.tag (fun x => { x with fallbackList := x.fallbackList.drop 1 }) s =
        { s with commands := before ++ { r with fallbackList := [] } :: behind } := by
      rw [updateCommand_eq, hcommands, atTag_middle _ htags, hrun]
      rfl
    have hmake := makeFallback_made (s := { s with commands := before ++ { r with fallbackList := [] } :: behind })
      (r := { r with fallbackList := [] }) (run := run) rfl htags hroom (forcedAtIssue_disk hstatus hretry)
    refine ⟨nextId s, nextId_mem hroom, ?_⟩
    rw [hexec, fallbackPieceMake, if_pos hfirst, event_some, hruns, List.foldl_cons, List.foldl_nil, makeWaiting,
      if_neg hroom, hdropped]
    dsimp only at hmake ⊢
    have hfind := find?_tag_middle (before := before) (behind := behind) (r := { r with
      fallbackList := [], outstanding := r.outstanding + 1, fallbackPieces := r.fallbackPieces ++ [nextId s] }) htags
    rw [hmake, completeIfDone_open (by exact hfind) (by simp [CommandRec.isDone])]
    rfl

end Sys2Proof.Machine
end

section
/-! O36. The split of a READ portion (R69). -/

namespace Sys2Proof.Machine

open Sys2Proof.Safety

/-! ### The pieces -/

/-- The kind of an offset for the split: whether an offset of the portion is valid (R69). -/
def readKind (r : CommandRec) (valid : OffsetSet) (k : Nat) : Option Bool :=
  if (portionOffsets r).getLsbD k then some (valid.getLsbD k) else none

/-- The piece of one run of the split (R69). -/
def readPiece (r : CommandRec) (i : Nat) (g : Segment Bool) : PieceSpec :=
  if g.kind then
    ⟨.flash, .read, .flash i g.run.first, g.run.count, hostBuffer r (portionChunk r * 256 + g.run.first)⟩
  else ⟨.disk, .read, .disk (portionChunk r * 256 + g.run.first), g.run.count,
    hostBuffer r (portionChunk r * 256 + g.run.first)⟩

theorem readPieces_eq (r : CommandRec) (i : Nat) (valid : OffsetSet) : ∃ l : List (Segment Bool),
    readPieces r i valid = l.map (readPiece r i) ∧ Segmented (readKind r valid) 0 256 l :=
  ⟨_, rfl, segmentsFrom_segmented _ 256 0⟩

theorem readPiece_fields (r : CommandRec) (i : Nat) (g : Segment Bool) :
    (readPiece r i g).op = .read ∧ (readPiece r i g).count = g.run.count ∧
    (readPiece r i g).buffer = .host r.buffer (portionChunk r * 256 + g.run.first - r.lba) ∧
    ((readPiece r i g).port = .flash ↔ g.kind = true) := by
  unfold readPiece
  cases g.kind <;> exact ⟨rfl, rfl, rfl, by simp⟩

/-- The offset in its chunk at which a piece of the split begins. -/
def firstOffset (base : Nat) (p : PieceSpec) : Nat :=
  match p.target with
  | .flash _ f => f
  | .disk lba => lba - base
  | .none => 0

theorem firstOffset_readPiece (r : CommandRec) (i : Nat) (g : Segment Bool) :
    firstOffset (portionChunk r * 256) (readPiece r i g) = g.run.first := by
  unfold readPiece firstOffset
  cases g.kind
  · exact Nat.add_sub_cancel_left _ _
  · rfl

theorem readPiece_target (r : CommandRec) (i : Nat) (g : Segment Bool) :
    ((readPiece r i g).port = .flash → (readPiece r i g).target = .flash i g.run.first) ∧
    ((readPiece r i g).port = .disk → (readPiece r i g).target = .disk (portionChunk r * 256 + g.run.first)) := by
  unfold readPiece
  cases g.kind <;> exact ⟨by simp, by simp⟩

/-- The split, piece by piece (R69). -/
theorem readPieces_split (r : CommandRec) (i : Nat) (valid : OffsetSet) :
    (∀ p ∈ readPieces r i valid, p.op = .read ∧ 1 ≤ p.count ∧
      p.buffer = .host r.buffer (portionChunk r * 256 + firstOffset (portionChunk r * 256) p - r.lba) ∧
      (∀ k, firstOffset (portionChunk r * 256) p ≤ k → k < firstOffset (portionChunk r * 256) p + p.count →
        (portionOffsets r).getLsbD k = true ∧ (valid.getLsbD k = true ↔ p.port = .flash)) ∧
      (p.port = .flash → p.target = .flash i (firstOffset (portionChunk r * 256) p)) ∧
      (p.port = .disk → p.target = .disk (portionChunk r * 256 + firstOffset (portionChunk r * 256) p))) ∧
    (∀ k, (portionOffsets r).getLsbD k = true → ∃ p ∈ readPieces r i valid,
      firstOffset (portionChunk r * 256) p ≤ k ∧ k < firstOffset (portionChunk r * 256) p + p.count) ∧
    (readPieces r i valid).Pairwise (fun p q =>
      firstOffset (portionChunk r * 256) p + p.count ≤ firstOffset (portionChunk r * 256) q) ∧
    (∀ p ∈ readPieces r i valid, ∀ q ∈ readPieces r i valid,
      firstOffset (portionChunk r * 256) p + p.count = firstOffset (portionChunk r * 256) q → p.port ≠ q.port) := by
  obtain ⟨l, hl, hseg⟩ := readPieces_eq r i valid
  have hcount (g : Segment Bool) : (readPiece r i g).count = g.run.count := (readPiece_fields r i g).2.1
  rw [hl]
  refine ⟨fun p hp => ?pieces, fun k hk => ?covers, ?ordered, fun p hp q hq hend => ?maximal⟩
  case pieces =>
    obtain ⟨g, hg, rfl⟩ := List.mem_map.mp hp
    obtain ⟨hop, _, hbuffer, hport⟩ := readPiece_fields r i g
    obtain ⟨_, hpos, _⟩ := hseg.within g hg
    rw [firstOffset_readPiece, hcount]
    refine ⟨hop, hpos, hbuffer, fun k hk hk' => ?_, readPiece_target r i g⟩
    have hkind := hseg.kinds g hg k hk hk'
    unfold readKind at hkind
    split at hkind
    next ho =>
      refine ⟨ho, ?_⟩
      rw [hport, Option.some.inj hkind]
    next => contradiction
  case covers =>
    obtain ⟨g, hg, hin⟩ := hseg.covers k (Nat.zero_le _) (BitVec.lt_of_getLsbD hk) (by simp [readKind, hk])
    refine ⟨_, List.mem_map_of_mem hg, ?_⟩
    rw [firstOffset_readPiece, hcount]
    exact hin
  case ordered =>
    rw [List.pairwise_map]
    refine hseg.ordered.imp fun {g g'} hle => ?_
    rwa [firstOffset_readPiece, firstOffset_readPiece, hcount]
  case maximal =>
    obtain ⟨g, hg, rfl⟩ := List.mem_map.mp hp
    obtain ⟨g', hg', rfl⟩ := List.mem_map.mp hq
    rw [firstOffset_readPiece, firstOffset_readPiece, hcount] at hend
    have hne := hseg.maximal g hg g' hg' hend
    intro hport
    have hsame : g.kind = true ↔ g'.kind = true := by
      rw [← (readPiece_fields r i g).2.2.2, ← (readPiece_fields r i g').2.2.2, hport]
    exact hne (Bool.eq_iff_iff.mpr hsame)

/-! ### The marks of several flash pieces on one slot -/

theorem putSlot_self {i : Nat} {r : SlotRec} {s : State} (h : s.map.slots[i]? = some r) : putSlot i r s = s := by
  have hmap : s.map.put i r r = s.map := by
    simp only [ResidencyMap.put, reindex, recount_same, if_true]
    obtain ⟨hlt, hget⟩ := List.getElem?_eq_some_iff.mp h
    rw [← hget, List.set_getElem_self hlt]
  have hquiet : wakesHand s.reclaimer.condition s.reclaimer.hand i r r = false := by
    unfold wakesHand
    split <;> simp
  unfold putSlot
  rw [h]
  dsimp only
  rw [hquiet, hmap]
  rfl

theorem State.slot_of_some {s : State} {i : Nat} {r : SlotRec} (h : s.map.slots[i]? = some r) : s.slot i = r := by
  rw [State.slot, h, Option.getD_some]

theorem putSlot_present {i : Nat} {old : SlotRec} (r : SlotRec) {s : State} (h : s.map.slots[i]? = some old) :
    putSlot i r s = if wakesHand s.reclaimer.condition s.reclaimer.hand i old r = true
      then releaseHand { s with map := s.map.put i old r } else { s with map := s.map.put i old r } := by
  rw [putSlot, h]

theorem wakesHand_waits {c : HandCondition} {hand i : Nat} {old r : SlotRec} (h : wakesHand c hand i old r = true) :
    c = .waiting ∨ c = .paused := by
  cases c with
  | waiting => exact Or.inl rfl
  | paused => exact Or.inr rfl
  | moving => exact absurd h Bool.false_ne_true
  | stopped => exact absurd h Bool.false_ne_true

/-- The second of two writes of a slot's record stands, where the first changes no count and no binding. -/
theorem put_put {m : ResidencyMap} {i : Nat} {old r : SlotRec} (r' : SlotRec) (hchunk : r.chunk = old.chunk)
    (hfree : r.isFree = old.isFree) (hdirty : r.isDirty = old.isDirty) (hpinned : r.countsPinned = old.countsPinned) :
    (m.put i old r).put i r r' = m.put i old r' := by
  simp only [ResidencyMap.put, reindex, hchunk, hfree, hdirty, hpinned, recount_same, List.set_set, if_true]

/-- The second of two writes of a slot's record stands, where both wake the hand alike. -/
theorem putSlot_putSlot {i : Nat} {old r r' : SlotRec} {s : State} (h : s.map.slots[i]? = some old)
    (hchunk : r.chunk = old.chunk) (hfree : r.isFree = old.isFree) (hdirty : r.isDirty = old.isDirty)
    (hpinned : r.countsPinned = old.countsPinned)
    (hwakes : ∀ c hand, wakesHand c hand i old r = true → wakesHand c hand i old r' = true)
    (hquiet : ∀ c hand, wakesHand c hand i old r = false → wakesHand c hand i r r' = wakesHand c hand i old r') :
    putSlot i r' (putSlot i r s) = putSlot i r' s := by
  have hnow : (s.map.put i old r).slots[i]? = some r :=
    List.getElem?_set_self (List.getElem?_eq_some_iff.mp h).1
  have hmap := put_put (m := s.map) (i := i) r' hchunk hfree hdirty hpinned
  rw [putSlot_present r' h, putSlot_present r h]
  by_cases hw : wakesHand s.reclaimer.condition s.reclaimer.hand i old r = true
  · have hrelease (m : ResidencyMap) : releaseHand { s with map := m } = { s with
        map := m, reclaimer := { s.reclaimer with condition := if handMayMove s then .moving else .stopped } } :=
      if_pos (wakesHand_waits hw)
    rw [if_pos hw, if_pos (hwakes _ _ hw), hrelease, hrelease, putSlot_present r' (by exact hnow), if_neg, ← hmap]
    · dsimp only
      intro hagain
      have hwaits := wakesHand_waits hagain
      split at hwaits <;> simp at hwaits
  · rw [if_neg hw, putSlot_present r' (by exact hnow)]
    dsimp only
    rw [hquiet _ _ (by simpa using hw), hmap]

/-- A slot's record after `k` flash pieces have been made on it (R6, R7). -/
def marked (k : Nat) (w : SlotRec) : SlotRec :=
  { w with inflight := w.inflight + k, referenced := w.referenced || decide (k ≠ 0) }

theorem modifySlot_absent {i : Nat} (f : SlotRec → SlotRec) {s : State} (h : s.map.slots[i]? = none) : modifySlot i f s = s :=
  putSlot_absent h

theorem modifySlot_marked_zero (i : Nat) (s : State) : modifySlot i (marked 0) s = s := by
  cases h : s.map.slots[i]? with
  | none => exact modifySlot_absent _ h
  | some old =>
    have hsame : marked 0 old = old := by simp [marked]
    rw [modifySlot, State.slot_of_some h, hsame, putSlot_self h]

theorem modifySlot_marked_succ (i k : Nat) (s : State) :
    modifySlot i (marked k) (modifySlot i (marked 1) s) = modifySlot i (marked (k + 1)) s := by
  cases h : s.map.slots[i]? with
  | none => rw [modifySlot_absent _ h, modifySlot_absent _ h, modifySlot_absent _ h]
  | some old =>
    have hnow : (putSlot i (marked 1 old) s).slot i = marked 1 old := by
      refine State.slot_of_some ?_
      rw [putSlot_map_eq h]
      exact List.getElem?_set_self (List.getElem?_eq_some_iff.mp h).1
    have hsum : marked k (marked 1 old) = marked (k + 1) old := by
      simp only [marked, Nat.add_assoc, Nat.add_comm 1 k]
      simp
    have hchanged (n : Nat) : old ≠ marked (n + 1) old := by
      intro heq
      have hinflight := congrArg SlotRec.inflight heq
      simp only [marked] at hinflight
      omega
    rw [modifySlot, modifySlot, modifySlot, State.slot_of_some h, hnow, hsum]
    refine putSlot_putSlot h rfl rfl rfl rfl (fun c hand hw => ?_) (fun c hand hw => ?_)
    · cases c with
      | waiting =>
        simp only [wakesHand, Bool.and_eq_true] at hw ⊢
        exact ⟨hw.1, by simpa using hchanged k⟩
      | paused => simpa [wakesHand, marked] using hw
      | moving => exact hw
      | stopped => exact hw
    · cases c with
      | waiting =>
        have hne : (i == hand) = false := by
          simp only [wakesHand, Bool.and_eq_false_iff] at hw
          exact hw.resolve_right (by simpa using hchanged 0)
        simp [wakesHand, hne]
      | paused =>
        have href : old.referenced = true := by simpa [wakesHand, marked] using hw
        have hmore : (old.inflight + (k + 1) == 0) = false := by
          rw [beq_eq_false_iff_ne]
          omega
        simp [wakesHand, marked, href, hmore]
      | moving => rfl
      | stopped => rfl

/-- The pieces of a split mark their slot as the flash pieces among them count (R6, R7). -/
theorem foldl_markSlot_marked (i : Nat) {l : List PieceSpec} (hl : ∀ q ∈ l, (q.port = .flash ∧ ∃ f, q.target = .flash i f) ∨
    (q.port = .disk ∧ ∃ lba, q.target = .disk lba)) :
    ∀ s : State, l.foldl markSlot s = modifySlot i (marked (l.filter (fun q => q.port == .flash)).length) s := by
  induction l with
  | nil => exact fun s => (modifySlot_marked_zero i s).symm
  | cons q l ih =>
    intro s
    have hrest := ih (fun x hx => hl x (List.mem_cons_of_mem _ hx))
    rw [List.foldl_cons, hrest]
    rcases hl q List.mem_cons_self with ⟨hport, f, htarget⟩ | ⟨hport, lba, htarget⟩
    · have hmark : markSlot s q = modifySlot i (marked 1) s := by
        unfold markSlot
        rw [htarget]
        dsimp only
        rw [modifySlot, modifySlot, marked]
        simp
      rw [hmark, List.filter_cons_of_pos (by simp [hport]), List.length_cons, modifySlot_marked_succ]
    · have hmark : markSlot s q = s := by
        unfold markSlot
        rw [htarget]
      rw [hmark, List.filter_cons_of_neg (by simp [hport])]

theorem readPieces_ports {r : CommandRec} {i : Nat} {valid : OffsetSet} {q : PieceSpec} (h : q ∈ readPieces r i valid) :
    (q.port = .flash ∧ ∃ f, q.target = .flash i f) ∨ (q.port = .disk ∧ ∃ lba, q.target = .disk lba) := by
  obtain ⟨hpieces, _⟩ := readPieces_split r i valid
  obtain ⟨_, _, _, _, hflash, hdisk⟩ := hpieces q h
  cases hport : q.port with
  | flash => exact Or.inl ⟨rfl, _, hflash hport⟩
  | disk => exact Or.inr ⟨rfl, _, hdisk hport⟩

theorem readPieces_ne_nil {r : CommandRec} (i : Nat) (valid : OffsetSet) (h : r.cursor < r.lba + r.count) :
    readPieces r i valid ≠ [] := by
  obtain ⟨_, hcovers, _⟩ := readPieces_split r i valid
  have hbit : (portionOffsets r).getLsbD (r.cursor % 256) = true := by
    have hlt : r.cursor % 256 < 256 := Nat.mod_lt _ (by decide)
    rw [portionOffsets, portionCount, rangeSet_getLsbD]
    simp only [Bool.and_eq_true, decide_eq_true_eq]
    omega
  obtain ⟨p, hp, _⟩ := hcovers _ hbit
  exact List.ne_nil_of_mem hp

/-- Settles O36. -/
theorem readPortionSplit : Obligations.ReadPortionSplit := by
  unfold Obligations.ReadPortionSplit
  refine ⟨fun r i valid => readPieces_split r i valid,
    fun s r o i q hfront hfirst hkind hmode hbound hmore hroom hflash hdisk hretry => ?_⟩
  intro made n last flashMade piece joins
  have hplan : planPortion s r = some ⟨made, none, .good, none⟩ := by
    rw [planPortion_read hkind, if_neg (by simp [hmode]), planRead_bound hbound]
  have hforced : ∀ m ∈ made, forcedAtIssue m.port s = false := by
    intro m _
    cases m.port
    · exact forcedAtIssue_flash hflash
    · exact forcedAtIssue_disk hdisk hretry
  obtain ⟨ids, hlength, hnodup, hmem, hexec⟩ := routePortion_open o hfront hfirst hplan hroom hforced
    (Or.inl (readPieces_ne_nil i q.valid hmore))
  refine ⟨ids, hlength, hnodup, hmem, ?_⟩
  have hmarks : made.foldl markSlot (reportedFirst o r s) = modifySlot i (fun w => { w with
      inflight := w.inflight + flashMade.length, referenced := w.referenced || !flashMade.isEmpty })
      (reportedFirst o r s) := by
    rw [foldl_markSlot_marked i fun m hm => readPieces_ports hm]
    refine congrArg (fun f => modifySlot i f _) (funext fun w => ?_)
    have hempty : (!flashMade.isEmpty) = decide (flashMade.length ≠ 0) := by
      cases flashMade <;> simp
    rw [hempty]
    rfl
  have hrecord : atTag r.tag (routedRec r ⟨made, none, .good, none⟩) s.commands = atTag r.tag (fun x => { x with
      outstanding := x.outstanding + made.length, cursor := r.cursor + n, routingDone := last }) s.commands := by
    refine atTag_congr (fun x _ => ?_) _
    rw [routedRec, merge_good]
    rfl
  rw [hexec, routedBy, hrecord, ← hmarks]
  simp only [last, decide_eq_true_eq]
  rfl

end Sys2Proof.Machine
end

section
/-! O48. The completion of a host piece (R77 to R85, R90, R98). -/

namespace Sys2Proof.Machine

open Sys2Proof.Safety

/-! ### The piece leaves its port's list -/

/-- The state in which a completed piece is handed to its owner (R90): it has left the list, and the timeout count is 0
where the piece was SENT. -/
def pieceGone (p : Port) (x : Piece) (before behind : List Piece) (s v : State) : State :=
  setPort p { s.port p with
    list := before ++ behind, timeouts := if x.state = .sent then 0 else (s.port p).timeouts } v

section
variable {s : State} {p : Port} {x : Piece} {before behind : List Piece}

theorem findPiece_here (hlist : (s.port p).list = before ++ x :: behind) (hother : ∀ y ∈ before ++ behind, y.id ≠ x.id) :
    findPiece x.id (s.port p).list = some (x, behind) := by
  rw [hlist, findPiece_middle fun y hy => hother y (List.mem_append_left _ hy)]

theorem without_here (hlist : (s.port p).list = before ++ x :: behind) (hother : ∀ y ∈ before ++ behind, y.id ≠ x.id) :
    (s.port p).without x.id = { s.port p with list := before ++ behind } := by
  rw [PortUnit.without, hlist, List.filter_append, List.filter_cons_of_neg (by simp), ← List.filter_append]
  congr 1
  exact List.filter_eq_self.mpr fun y hy => by simpa using hother y hy

theorem setPort_port (p : Port) (u : PortUnit) (s : State) : (setPort p u s).port p = u := by cases p <;> rfl

theorem setPort_setPort (p : Port) (u v : PortUnit) (s : State) : setPort p u (setPort p v s) = setPort p u s := by
  cases p <;> rfl

theorem completePiece_here (hlist : (s.port p).list = before ++ x :: behind) (hother : ∀ y ∈ before ++ behind, y.id ≠ x.id)
    (st : PieceStatus) : completePiece p x.id st s =
      deliver p behind x st (setPort p { s.port p with list := before ++ behind } s) := by
  rw [completePiece, findPiece_here hlist hother, without_here hlist hother]

/-- A piece that was SENT completes with the timeout count at 0 (R92). -/
theorem completePiece_counted (hlist : (s.port p).list = before ++ x :: behind)
    (hother : ∀ y ∈ before ++ behind, y.id ≠ x.id) (hsent : x.state = .sent) (st : PieceStatus) :
    completePiece p x.id st (setTimeouts p 0 s) = deliver p behind x st (pieceGone p x before behind s s) := by
  have hport : (setTimeouts p 0 s).port p = { s.port p with timeouts := 0 } := setPort_port ..
  rw [completePiece_here (by rw [hport]; exact hlist) hother, hport, setTimeouts, setPort_setPort, pieceGone, if_pos hsent]

/-- A completion that its owner takes: R98 sends no piece back to WAITING here. -/
theorem takeCompletion_delivers (hlist : (s.port p).list = before ++ x :: behind)
    (hother : ∀ y ∈ before ++ behind, y.id ≠ x.id) {st : PieceStatus}
    (hgoes : ¬ (p = .disk ∧ x.state = .sent ∧ s.spindle.state ≠ .running ∧ st = .aborted) ∨ retries s x = false) :
    takeCompletion p x st s = deliver p behind x st (pieceGone p x before behind s s) := by
  unfold takeCompletion
  by_cases hsent : x.state = .sent
  · rw [if_pos hsent]
    by_cases hcaught : p = .disk ∧ s.spindle.state ≠ .running ∧ st = .aborted
    · obtain ⟨rfl, hspindle, rfl⟩ := hcaught
      have hspent : retries s x = false := hgoes.resolve_left (fun hnot => hnot ⟨rfl, hsent, hspindle, rfl⟩)
      rw [if_pos ⟨rfl, hspindle, rfl⟩, takeCaughtAborted, show findPiece x.id s.disk.list = some (x, behind) from
        findPiece_here (p := .disk) hlist hother]
      dsimp only
      rw [if_neg (by simp [hspent])]
      exact completePiece_counted hlist hother hsent .aborted
    · rw [if_neg hcaught]
      exact completePiece_counted hlist hother hsent st
  · rw [if_neg hsent, completePiece_here hlist hother, pieceGone, if_neg hsent]

theorem pieceCompletion_taken {id status offset : Byte} (hready : (s.port p).status = .ready)
    (hlist : (s.port p).list = before ++ x :: behind) (hid : x.id = id.toNat) (hstate : x.state ≠ .waiting)
    (hother : ∀ y ∈ before ++ behind, y.id ≠ id.toNat) {st : PieceStatus}
    (hst : completionStatus x status offset = some st) :
    pieceCompletion p id status offset s = some (takeCompletion p x st s) := by
  rw [← hid] at hother
  unfold pieceCompletion
  rw [if_neg (fun hne => hne hready), ← hid, findPiece_here hlist hother]
  dsimp only
  rw [if_neg hstate, hst]
  rfl

/-! ### A command's piece -/

theorem hostPieceMap_withHost (commands : List CommandRec) (flash disk : PortUnit) (choice : Nat) (behind : List Piece)
    (x : Piece) (st : PieceStatus) (s : State) : hostPieceMap behind x st (withHost commands flash disk choice s) =
      withHost commands flash disk choice (hostPieceMap behind x st s) := by
  unfold hostPieceMap
  split
  · exact modifySlot_withHost ..
  · rfl

theorem pieceGone_eq {v : State} (p : Port) (x : Piece) (before behind : List Piece) (hcommands : v.commands = s.commands)
    (hflash : v.flash = s.flash) (hdisk : v.disk = s.disk) (hchoice : v.choice = s.choice) :
    pieceGone p x before behind s v = withHost s.commands (pieceGone p x before behind s s).flash
      (pieceGone p x before behind s s).disk s.choice v := by
  cases p
  · rw [withHost, ← hcommands, ← hchoice, show (pieceGone .flash x before behind s s).disk = v.disk from hdisk.symm]
    rfl
  · rw [withHost, ← hcommands, ← hchoice, show (pieceGone .disk x before behind s s).flash = v.flash from hflash.symm]
    rfl

theorem hostPieceMap_gone (p : Port) (x : Piece) (before behind : List Piece) (st : PieceStatus) (s : State) :
    hostPieceMap behind x st (pieceGone p x before behind s s) =
      pieceGone p x before behind s (hostPieceMap behind x st s) := by
  rw [pieceGone_eq (v := s) p x before behind rfl rfl rfl rfl, hostPieceMap_withHost,
    pieceGone_eq (v := hostPieceMap behind x st s) p x before behind (by simp) (by simp) (by simp) (by simp)]

end

theorem mergeHostPiece_frame (p : Port) (x : Piece) (st : PieceStatus) (lba : Option Nat) (r0 : SlotRec) (r : CommandRec) :
    (mergeHostPiece p x st lba r0 r).tag = r.tag ∧ (mergeHostPiece p x st lba r0 r).routingDone = r.routingDone ∧
    (mergeHostPiece p x st lba r0 r).outstanding = r.outstanding - 1 ∧
    (mergeHostPiece p x st lba r0 r).fallbackList = r.fallbackList := by
  unfold mergeHostPiece
  dsimp only
  (repeat' split) <;> exact ⟨rfl, rfl, rfl, rfl⟩

section
variable {s : State} {p : Port} {x : Piece} {before behind : List Piece} {r : CommandRec}
  {others others' : List CommandRec} {st : PieceStatus}

/-- A command takes its piece's completion, with the fallback pieces it asks for (R77, R79, R80). -/
theorem takeHostPiece_command (hcommands : s.commands = others ++ r :: others')
    (htags : ∀ y ∈ others ++ others', y.tag ≠ r.tag) (howner : x.owner = .command r.tag) :
    takeHostPiece p behind x st s = completeIfDone r.tag ((fallbackRuns x st (pieceSlot s x)).foldl (makeFallback r.tag)
      { hostPieceMap behind x st s with
        commands := others ++ mergeHostPiece p x st (firstLba s x) (pieceSlot s x) r :: others' }) := by
  have hkept : (hostPieceMap behind x st s).commands = others ++ r :: others' := by simp [hcommands]
  unfold takeHostPiece
  rw [howner]
  dsimp only
  rw [updateCommand_eq, hkept, atTag_middle _ htags]

theorem deliver_command (hcommands : s.commands = others ++ r :: others') (htags : ∀ y ∈ others ++ others', y.tag ≠ r.tag)
    (howner : x.owner = .command r.tag) :
    deliver p behind x st (pieceGone p x before behind s s) = completeIfDone r.tag
      ((fallbackRuns x st (pieceSlot s x)).foldl (makeFallback r.tag)
        { pieceGone p x before behind s (hostPieceMap behind x st s) with
          commands := others ++ mergeHostPiece p x st (firstLba s x) (pieceSlot s x) r :: others' }) := by
  have hslot : pieceSlot (pieceGone p x before behind s s) x = pieceSlot s x := by
    unfold pieceSlot
    cases x.target <;> cases p <;> rfl
  have hlba : firstLba (pieceGone p x before behind s s) x = firstLba s x := by
    unfold firstLba
    cases x.target <;> cases p <;> rfl
  have hkept : (pieceGone p x before behind s s).commands = others ++ r :: others' := by
    rw [← hcommands]
    cases p <;> rfl
  unfold deliver
  rw [howner]
  dsimp only
  rw [takeHostPiece_command hkept htags howner, hslot, hlba, hostPieceMap_gone]

/-- The completion of a command's piece, and the command's completion where this was its last condition (R77, R79, R90).
-/
theorem commandPiece_completes {id status offset : Byte} (hready : (s.port p).status = .ready)
    (hlist : (s.port p).list = before ++ x :: behind) (hid : x.id = id.toNat) (hstate : x.state ≠ .waiting)
    (hother : ∀ y ∈ before ++ behind, y.id ≠ id.toNat) (hst : completionStatus x status offset = some st)
    (hgoes : ¬ (p = .disk ∧ x.state = .sent ∧ s.spindle.state ≠ .running ∧ st = .aborted) ∨ x.retryUsed = true)
    (howner : x.owner = .command r.tag) (hcommands : s.commands = others ++ r :: others')
    (htags : ∀ y ∈ others ++ others', y.tag ≠ r.tag) (hruns : fallbackRuns x st (pieceSlot s x) = []) {r' : CommandRec}
    (hmerge : mergeHostPiece p x st (firstLba s x) (pieceSlot s x) r = r') {v : State}
    (hv : hostPieceMap behind x st s = v) :
    (r.routingDone = false ∨ r.outstanding - 1 ≠ 0 ∨ r.fallbackList ≠ [] →
      exec (.pieceCompletion p id status offset) s = .next (settle s { pieceGone p x before behind s v with
        commands := others ++ r' :: others' })) ∧
    (r.routingDone = true → r.outstanding - 1 = 0 → r.fallbackList = [] →
      exec (.pieceCompletion p id status offset) s = .next (settle s { pieceGone p x before behind s v with
        commands := others ++ others'
        link := { s.link with sent := s.link.sent ++ [⟨r.tag, .media r'.status, r'.errorLba, .none⟩] } })) := by
  obtain ⟨htag, hrouting, houtstanding, hfallback⟩ := mergeHostPiece_frame p x st (firstLba s x) (pieceSlot s x) r
  rw [hmerge] at htag hrouting houtstanding hfallback
  rw [← htag] at htags
  have hexec : exec (.pieceCompletion p id status offset) s =
      .next (event s (pieceCompletion p id status offset s)) := rfl
  have hretries : ¬ (p = .disk ∧ x.state = .sent ∧ s.spindle.state ≠ .running ∧ st = .aborted) ∨ retries s x = false :=
    hgoes.imp_right fun hused => by simp [retries, hused]
  have hfind := find?_tag_middle htags
  rw [hexec, pieceCompletion_taken hready hlist hid hstate hother hst, event_some,
    takeCompletion_delivers hlist (hid ▸ hother) hretries, deliver_command hcommands (htag ▸ htags) howner, hruns,
    List.foldl_nil, hmerge, hv,
    ← htag]
  refine ⟨fun hopen => ?_, fun hrouted hnone hlist' => ?_⟩
  · rw [completeIfDone_open (by exact hfind)]
    simp only [CommandRec.isDone, hrouting, houtstanding, hfallback, Bool.and_eq_false_iff, beq_eq_false_iff_ne,
      List.isEmpty_eq_false_iff]
    exact or_assoc.mpr hopen
  · rw [completeIfDone_done (by exact hfind)]
    · have hlink : (pieceGone p x before behind s v).link = s.link := by
        rw [← hv]
        cases p <;> simp [pieceGone, setPort]
      dsimp only
      rw [filter_tag_middle htags, hlink]
    · simp [CommandRec.isDone, hrouting, houtstanding, hfallback, hrouted, hnone, hlist']

end

end Sys2Proof.Machine
end

section
/-! O48. The completion of a host piece, statement by statement. -/

namespace Sys2Proof.Machine

open Sys2Proof.Safety

section
variable {x : Piece} {status : Byte} (offset : Byte)

theorem completionStatus_ok (h : status.toNat = 0) : completionStatus x status offset = some .ok := by
  unfold completionStatus
  rw [h] <;> rfl

theorem completionStatus_mediaError (h : status.toNat = 1) :
    completionStatus x status offset = some (.mediaError (min offset.toNat (x.count - 1))) := by
  unfold completionStatus
  rw [h] <;> rfl

theorem completionStatus_aborted (h : status.toNat = 2) : completionStatus x status offset = some .aborted := by
  unfold completionStatus
  rw [h] <;> rfl

theorem completionStatus_notReady (h : status.toNat = 3) : completionStatus x status offset = some .notReady := by
  unfold completionStatus
  rw [h] <;> rfl

end

section
variable {p : Port} {x : Piece} {st : PieceStatus} {lba : Option Nat} {r0 : SlotRec} {r : CommandRec}

/-- A piece that is neither a fallback piece nor a flash READ in MEDIA_ERROR merges its status (R77). -/
theorem mergeHostPiece_plain (hfallback : ¬ (x.id ∈ r.fallbackPieces ∧ p = .disk))
    (hplain : ∀ i f e, x.op = .read → x.target = .flash i f → st ≠ .mediaError e) :
    mergeHostPiece p x st lba r0 r =
      r.dropPiece.merge (mergedAs (st.atPort p) lba).1 (mergedAs (st.atPort p) lba).2 := by
  unfold mergeHostPiece
  dsimp only
  rw [if_neg (by simpa [CommandRec.dropPiece] using hfallback)]
  split
  next e hop htarget => exact absurd rfl (hplain _ _ _ hop htarget)
  next => rfl

/-- A fallback piece leaves the fallback pieces, and merges MEDIA_ERROR where it failed (R81). -/
theorem mergeHostPiece_fallback (hfallback : x.id ∈ r.fallbackPieces) : mergeHostPiece .disk x st lba r0 r =
    let c : CommandRec := { r.dropPiece with fallbackPieces := r.fallbackPieces.filter (fun n => n != x.id) }
    if st = .ok then c else c.merge .mediaError (fallbackFailLba lba st) := by
  unfold mergeHostPiece
  dsimp only
  rw [if_pos (by simpa [CommandRec.dropPiece] using hfallback)]
  rfl

theorem fallbackRuns_plain (hplain : ∀ i f e, x.op = .read → x.target = .flash i f → st ≠ .mediaError e) :
    fallbackRuns x st r0 = [] := by
  unfold fallbackRuns
  split
  next e hop htarget => exact absurd rfl (hplain _ _ _ hop htarget)
  next => rfl

theorem firstLba_flash {s : State} {i first chunk : Nat} (htarget : x.target = .flash i first)
    (hchunk : (s.slot i).chunk = some chunk) : firstLba s x = some (chunk * 256 + first) := by
  unfold firstLba
  rw [htarget]
  dsimp only
  rw [hchunk, Option.getD_some]

theorem firstLba_disk {s : State} {lba : Nat} (htarget : x.target = .disk lba) : firstLba s x = some lba := by
  unfold firstLba
  rw [htarget]

end

/-- The slot of a flash piece's completion (R6, R80, R82): the inflight count falls, and the offsets lost leave the sets.
-/
theorem hostPieceMap_flash {behind : List Piece} {x : Piece} {i first : Nat} (htarget : x.target = .flash i first)
    (st : PieceStatus) (s : State) : hostPieceMap behind x st s = modifySlot i (fun q =>
      match x.op, st with
      | .read, .mediaError e =>
        SlotRec.drop { q with inflight := q.inflight - 1 } (failedOffsets first x.count e &&& ~~~q.dirty)
      | .write, .ok => { q with inflight := q.inflight - 1 }
      | .write, _ => SlotRec.drop { q with inflight := q.inflight - 1 } (x.offsets &&& ~~~(laterWrites i behind))
      | _, _ => { q with inflight := q.inflight - 1 }) s := by
  unfold hostPieceMap
  rw [htarget] <;> rfl

theorem drop_none (q : SlotRec) : q.drop 0#256 = q := by
  simp only [SlotRec.drop, BitVec.not_zero, BitVec.and_allOnes]

/-- The offsets that a flash piece's completion takes from its slot's sets (R80, R82). -/
def lostOffsets (behind : List Piece) (x : Piece) (st : PieceStatus) (i first : Nat) (w : SlotRec) : OffsetSet :=
  match x.op, st with
  | .read, .mediaError e => failedOffsets first x.count e &&& ~~~w.dirty
  | .write, .ok => 0#256
  | .write, _ => x.offsets &&& ~~~(laterWrites i behind)
  | _, _ => 0#256

theorem hostPieceMap_lost {behind : List Piece} {x : Piece} {i first : Nat} (htarget : x.target = .flash i first)
    (st : PieceStatus) (s : State) : hostPieceMap behind x st s = modifySlot i (fun w =>
      SlotRec.drop { w with inflight := w.inflight - 1 } (lostOffsets behind x st i first w)) s := by
  rw [hostPieceMap_flash htarget]
  refine congrArg (fun f => modifySlot i f s) (funext fun w => ?_)
  unfold lostOffsets
  cases x.op <;> cases st <;> simp only [drop_none]

theorem hostPieceMap_none {behind : List Piece} {x : Piece} (st : PieceStatus) (s : State)
    (h : ∀ i first, x.target ≠ .flash i first) : hostPieceMap behind x st s = s := by
  unfold hostPieceMap
  split
  next i first htarget => exact absurd htarget (h i first)
  next => rfl

/-- A status other than OK, as the owner takes it (R77, R81, R90). -/
theorem failedStatus {x : Piece} {status offset : Byte} (hlow : 1 ≤ status.toNat) (hhigh : status.toNat ≤ 3) :
    ∃ st : PieceStatus, completionStatus x status offset = some st ∧ st ≠ .ok ∧ (st = .aborted ↔ status.toNat = 2) ∧
      (status.toNat ≠ 1 → ∀ e, st ≠ .mediaError e) ∧
      (∀ lba : Nat, fallbackFailLba (some lba) st =
        some (if status.toNat = 1 then lba + min offset.toNat (x.count - 1) else lba)) ∧
      (∀ (p : Port) (lba : Nat), mergedAs (st.atPort p) (some lba) =
        (if status.toNat = 1 then .mediaError else if status.toNat = 2 then .aborted
          else if p = .disk then .diskUnavailable else .flashUnavailable,
          some (if status.toNat = 1 then lba + min offset.toNat (x.count - 1) else lba))) := by
  have hcases : status.toNat = 1 ∨ status.toNat = 2 ∨ status.toNat = 3 := by omega
  rcases hcases with h | h | h
  · exact ⟨_, completionStatus_mediaError offset h, by simp, by simp [h], by simp [h], by simp [h, fallbackFailLba],
      by simp [h, PieceStatus.atPort, mergedAs]⟩
  · exact ⟨_, completionStatus_aborted offset h, by simp, by simp [h], by simp, by simp [h, fallbackFailLba],
      by simp [h, PieceStatus.atPort, mergedAs]⟩
  · refine ⟨_, completionStatus_notReady offset h, by simp, by simp [h], by simp, by simp [h, fallbackFailLba], ?_⟩
    intro p lba
    cases p <;> simp [h, PieceStatus.atPort, mergedAs, forcedStatus]

section
variable {x : Piece} {i first e : Nat} {r0 : SlotRec}

/-- A flash READ that fails merges only where dirty data was among its failed offsets (R80). -/
theorem mergeHostPiece_failedRead {lba : Option Nat} {r : CommandRec} (hop : x.op = .read)
    (htarget : x.target = .flash i first) : mergeHostPiece .flash x (.mediaError e) lba r0 r =
      (lowest (rangeSet (first + e) (x.count - e) &&& r0.dirty)).elim r.dropPiece
        (fun o => r.dropPiece.merge .mediaError (some (r0.chunk.getD 0 * 256 + o))) := by
  unfold mergeHostPiece
  dsimp only
  rw [if_neg (by simp), hop, htarget]
  dsimp only
  unfold failedOffsets
  cases lowest (rangeSet (first + e) (x.count - e) &&& r0.dirty) <;> rfl

theorem fallbackRuns_failedRead (hop : x.op = .read) (htarget : x.target = .flash i first) :
    fallbackRuns x (.mediaError e) r0 = (runs (rangeSet (first + e) (x.count - e) &&& ~~~r0.dirty)).map
      (fun q => (r0.chunk.getD 0 * 256 + q.first, q.count)) := by
  unfold fallbackRuns
  rw [hop, htarget] <;> rfl

end

/-- Settles O48. -/
theorem hostPieceCompletion : Obligations.HostPieceCompletion := by
  unfold Obligations.HostPieceCompletion
  refine ⟨fun s id status offset x before behind r others others' i first chunk hready hlist hid hstate hother howner hop
      htarget hcommands htags hchunk hstatus => ?write,
    fun s p id offset x before behind r others others' hready hlist hid hstate hother howner hcommands htags => ?ok,
    fun s id offset x before behind r others others' i first chunk q hready hlist hid hsent hother howner hop htarget
      hcommands htags hchunk => ?read,
    fun s p id status offset x before behind hready hlist hid hstate hother hstatus => ?rest⟩
  case write =>
    intro e lost ok r' u
    have hplain : ∀ j f e, x.op = .read → x.target = .flash j f → ∀ st : PieceStatus, st ≠ .mediaError e := by
      intro j f e hread
      rw [hop] at hread
      contradiction
    have hlba := firstLba_flash htarget hchunk
    obtain ⟨st, hst, hmerge, hmap⟩ : ∃ st : PieceStatus, completionStatus x status offset = some st ∧
        r.dropPiece.merge (mergedAs (st.atPort .flash) (firstLba s x)).1 (mergedAs (st.atPort .flash) (firstLba s x)).2 = r' ∧
        hostPieceMap behind x st s = modifySlot i (fun q => { q with
          inflight := q.inflight - 1
          valid := if ok then q.valid else q.valid &&& ~~~lost
          dirty := if ok then q.dirty else q.dirty &&& ~~~lost
          redirty := if ok then q.redirty else q.redirty &&& ~~~lost }) s := by
      have hoffsets : x.offsets = rangeSet first x.count := by
        unfold Piece.offsets
        rw [htarget]
      have hcases : status.toNat = 0 ∨ status.toNat = 1 ∨ status.toNat = 2 ∨ status.toNat = 3 := by omega
      rw [hlba]
      simp only [hostPieceMap_flash htarget, hop, hoffsets]
      rcases hcases with h | h | h | h
      · refine ⟨.ok, completionStatus_ok offset h, ?_, ?_⟩
        · simp only [r', h]
          exact merge_good _
        · simp [ok, h]
      · refine ⟨_, completionStatus_mediaError offset h, ?_, ?_⟩
        · simp only [r', h]
          rfl
        · simp [ok, h, SlotRec.drop, lost]
      · refine ⟨_, completionStatus_aborted offset h, ?_, ?_⟩
        · simp only [r', h]
          rfl
        · simp [ok, h, SlotRec.drop, lost]
      · refine ⟨_, completionStatus_notReady offset h, ?_, ?_⟩
        · simp only [r', h]
          rfl
        · simp [ok, h, SlotRec.drop, lost]
    exact commandPiece_completes (p := .flash) hready hlist hid hstate hother hst (Or.inl (by simp)) howner hcommands htags
      (fallbackRuns_plain fun j f e hread ht => hplain j f e hread ht st)
      ((mergeHostPiece_plain (by simp) fun j f e hread ht => hplain j f e hread ht st).trans hmerge) hmap
  case ok =>
    intro r' v u
    have hst : completionStatus x 0#8 offset = some .ok := completionStatus_ok offset rfl
    have hmap : hostPieceMap behind x .ok s = v := by
      cases htarget : x.target with
      | flash i first =>
        rw [hostPieceMap_flash htarget]
        simp only [v, htarget]
        cases x.op <;> rfl
      | disk lba => simp only [v, htarget]; exact hostPieceMap_none _ _ (by simp [htarget])
      | none => simp only [v, htarget]; exact hostPieceMap_none _ _ (by simp [htarget])
    have hmerge : mergeHostPiece p x .ok (firstLba s x) (pieceSlot s x) r = r' := by
      by_cases hfallback : x.id ∈ r.fallbackPieces ∧ p = .disk
      · obtain ⟨hin, rfl⟩ := hfallback
        rw [mergeHostPiece_fallback hin]
        rfl
      · rw [mergeHostPiece_plain hfallback (by simp)]
        have hkept : (if p = .disk then r.fallbackPieces.filter (fun n => n != x.id) else r.fallbackPieces) =
            r.fallbackPieces := by
          split
          next hdisk =>
            refine List.filter_eq_self.mpr fun n hn => ?_
            simpa using fun heq : n = x.id => hfallback ⟨heq ▸ hn, hdisk⟩
          next => rfl
        simp only [r', hkept]
        exact merge_good _
    exact commandPiece_completes hready hlist hid hstate hother hst (Or.inl (by simp)) howner hcommands htags
      (fallbackRuns_plain (by simp)) hmerge hmap
  case read =>
    intro e F u lba merged hrun hroom hdisk hretry
    rw [← hid] at hother
    have hslot : pieceSlot s x = s.slot i := by
      unfold pieceSlot
      rw [htarget]
    have hmap : hostPieceMap behind x (.mediaError e) s = modifySlot i (fun q => { q with
        inflight := q.inflight - 1
        valid := q.valid &&& ~~~(F &&& ~~~q.dirty)
        redirty := q.redirty &&& ~~~(F &&& ~~~q.dirty) }) s := by
      have hkeep (b : OffsetSet) : b &&& ~~~(F &&& ~~~b) = b := by
        refine BitVec.eq_of_getLsbD_eq fun k hk => ?_
        simp only [BitVec.getLsbD_and, BitVec.getLsbD_not, hk, decide_true, Bool.true_and]
        cases b.getLsbD k <;> simp
      rw [hostPieceMap_flash htarget]
      simp only [hop, SlotRec.drop, F, failedOffsets] at hkeep ⊢
      simp only [hkeep]
    have hgone : pieceGone .flash x before behind s (hostPieceMap behind x (.mediaError e) s) = u := by
      rw [hmap]
      simp only [pieceGone, hsent, if_true]
      rfl
    have hrecord : mergeHostPiece .flash x (.mediaError e) (firstLba s x) (pieceSlot s x) r =
        { merged with outstanding := r.outstanding - 1 } := by
      rw [mergeHostPiece_failedRead hop htarget, hslot, hchunk]
      simp only [merged, F]
      cases lowest (rangeSet (first + e) (x.count - e) &&& (s.slot i).dirty) <;> rfl
    have hmerged : merged.tag = r.tag ∧ merged.lba = r.lba ∧ merged.buffer = r.buffer ∧
        merged.fallbackPieces = r.fallbackPieces := by
      simp only [merged]
      split <;> exact ⟨rfl, rfl, rfl, rfl⟩
    obtain ⟨htag, hlba, hbuffer, hpieces⟩ := hmerged
    have huCommands : u.commands = s.commands := by simp [u]
    have huSpindle : u.spindle = s.spindle := by simp [u]
    have huParams : u.params = s.params := by simp [u]
    have huDisk : u.disk = s.disk := by simp [u]
    have huChoice : u.choice = s.choice := by simp [u]
    obtain ⟨hfree, hids⟩ := pool_congr (s := u)
      (u := { u with commands := others ++ { merged with outstanding := r.outstanding - 1 } :: others' }) rfl rfl
    have htags' := htags
    rw [← htag] at htags'
    have hmake := makeFallback_made
      (s := { u with commands := others ++ { merged with outstanding := r.outstanding - 1 } :: others' })
      (r := { merged with outstanding := r.outstanding - 1 }) (run := (lba, q.count)) rfl htags' (by rwa [hfree])
      (forcedAtIssue_disk (by show u.disk.status ≠ _; rwa [huDisk]) (by show u.spindle.retryTimer = _; rwa [huSpindle]))
    have hruns : fallbackRuns x (.mediaError e) (pieceSlot s x) = [(lba, q.count)] := by
      rw [fallbackRuns_failedRead hop htarget, hslot, show runs (rangeSet (first + e) (x.count - e) &&&
        ~~~(s.slot i).dirty) = [q] from hrun, hchunk]
      rfl
    have hexec : exec (.pieceCompletion .flash id 1#8 offset) s =
        .next (event s (pieceCompletion .flash id 1#8 offset s)) := rfl
    have hfind := find?_tag_middle (before := others) (behind := others') (r := { merged with
      outstanding := r.outstanding - 1 + 1
      fallbackPieces := merged.fallbackPieces ++
        [nextId { u with commands := others ++ { merged with outstanding := r.outstanding - 1 } :: others' }] }) htags'
    refine ⟨_, hids ▸ nextId_mem (by rwa [hfree]), ?_⟩
    rw [hexec, pieceCompletion_taken (p := .flash) hready hlist hid (by simp [hsent]) (hid ▸ hother)
      (completionStatus_mediaError offset rfl), event_some, takeCompletion_delivers (p := .flash) hlist hother (Or.inl (by simp)),
      deliver_command hcommands htags howner, hruns, hgone, hrecord, List.foldl_cons, List.foldl_nil, ← htag]
    dsimp only at hmake
    rw [hmake, completeIfDone_open (by exact hfind) (by simp [CommandRec.isDone])]
    have hsend (c : List CommandRec) : maySend .disk { u with commands := c } = maySend .disk s := by
      simp only [maySend, huDisk, huSpindle]
    have hlimit (c : List CommandRec) : pieceLimit { u with commands := c } .disk = pieceLimit s .disk := by
      simp only [pieceLimit, huParams]
    rw [hsend, hlimit, hbuffer, hlba, hpieces, huDisk, huChoice]
  case rest =>
    intro caught e taken
    have hexec : exec (.pieceCompletion p id status offset) s =
        .next (event s (pieceCompletion p id status offset s)) := rfl
    refine ⟨fun r others others' lba howner hcommands htags hlow hgoes htarget => ?failed, fun howner hgoes => ?orphan,
      fun hcaught hused hasked => ?caught⟩
    case failed =>
      intro fallback status' r' u
      obtain ⟨st, hst, hnotOk, haborted, hplain, hfail, hmerged⟩ := failedStatus (x := x) (offset := offset) hlow hstatus
      have hgoes' : ¬ (p = .disk ∧ x.state = .sent ∧ s.spindle.state ≠ .running ∧ st = .aborted) ∨ x.retryUsed = true :=
        hgoes.imp_left fun hnot ⟨hp, hsent, hspindle, hab⟩ => hnot ⟨hp, hsent, hspindle, haborted.mp hab⟩
      have hread : ∀ j f e, x.op = .read → x.target = .flash j f → st ≠ .mediaError e := by
        intro j f e _ ht
        rcases htarget with ⟨_, hdisk⟩ | ⟨_, _, hne, _⟩
        · rw [hdisk] at ht
          contradiction
        · exact hplain hne e
      have hlba : firstLba s x = some lba := by
        rcases htarget with ⟨_, hdisk⟩ | ⟨_, _, _, i, first, chunk, hflash, hchunk, rfl⟩
        · exact firstLba_disk hdisk
        · exact firstLba_flash hflash hchunk
      have hmerge : mergeHostPiece p x st (firstLba s x) (pieceSlot s x) r = r' := by
        rw [hlba]
        by_cases hfallback : x.id ∈ r.fallbackPieces ∧ p = .disk
        · obtain ⟨hin, rfl⟩ := hfallback
          rw [mergeHostPiece_fallback hin]
          dsimp only
          rw [if_neg hnotOk, hfail]
          simp only [r', status', fallback, hin, and_self, decide_true, true_or, if_true]
          rfl
        · rw [mergeHostPiece_plain hfallback hread, hmerged]
          have hkept : (if p = .disk then r.fallbackPieces.filter (fun n => n != x.id) else r.fallbackPieces) =
              r.fallbackPieces := by
            split
            next hdisk =>
              refine List.filter_eq_self.mpr fun n hn => ?_
              simpa using fun heq : n = x.id => hfallback ⟨heq ▸ hn, hdisk⟩
            next => rfl
          have hnot : fallback = false := by
            simp only [fallback, decide_eq_false_iff_not]
            exact fun ⟨hdisk, hin⟩ => hfallback ⟨hin, hdisk⟩
          simp only [r', status', hkept, hnot, Bool.false_eq_true, false_or]
          rfl
      have hmap : hostPieceMap behind x st s = (match x.target with
          | .flash i _ => modifySlot i (fun w => { w with inflight := w.inflight - 1 }) s
          | _ => s) := by
        rcases htarget with ⟨_, hdisk⟩ | ⟨_, hop, hne, i, first, chunk, hflash, hchunk, rfl⟩
        · rw [hostPieceMap_none _ _ (by simp [hdisk]), hdisk]
        · rw [hostPieceMap_flash hflash, hflash]
          simp only [hop]
          cases st <;> simp_all
      exact commandPiece_completes hready hlist hid hstate hother hst hgoes' howner hcommands htags
        (fallbackRuns_plain hread) hmerge hmap
    case orphan =>
      intro lost
      obtain ⟨st, hst, haborted, hmap⟩ : ∃ st : PieceStatus, completionStatus x status offset = some st ∧
          (st = .aborted → status.toNat = 2) ∧ hostPieceMap behind x st s = (match x.target with
            | .flash i first => modifySlot i (fun w => { w with
                inflight := w.inflight - 1
                valid := w.valid &&& ~~~(lost i first w)
                dirty := w.dirty &&& ~~~(lost i first w)
                redirty := w.redirty &&& ~~~(lost i first w) }) s
            | _ => s) := by
        have hall (st : PieceStatus) (hmerges : ∀ i first w, x.target = .flash i first →
            lostOffsets behind x st i first w = lost i first w) : hostPieceMap behind x st s = (match x.target with
            | .flash i first => modifySlot i (fun w => { w with
                inflight := w.inflight - 1
                valid := w.valid &&& ~~~(lost i first w)
                dirty := w.dirty &&& ~~~(lost i first w)
                redirty := w.redirty &&& ~~~(lost i first w) }) s
            | _ => s) := by
          cases htarget : x.target with
          | flash i first =>
            rw [hostPieceMap_lost htarget]
            exact congrArg (fun f => modifySlot i f s) (funext fun w => by rw [hmerges i first w htarget]; rfl)
          | disk lba => exact hostPieceMap_none _ _ (by simp [htarget])
          | none => exact hostPieceMap_none _ _ (by simp [htarget])
        have hcases : status.toNat = 0 ∨ status.toNat = 1 ∨ status.toNat = 2 ∨ status.toNat = 3 := by omega
        rcases hcases with h | h | h | h
        · refine ⟨_, completionStatus_ok offset h, by simp, hall _ fun i first w htarget => ?_⟩
          cases hop : x.op <;> simp [lostOffsets, lost, hop, h]
        · refine ⟨_, completionStatus_mediaError offset h, by simp, hall _ fun i first w htarget => ?_⟩
          cases hop : x.op <;> simp [lostOffsets, lost, hop, h, failedOffsets, Piece.offsets, htarget, e]
        · refine ⟨_, completionStatus_aborted offset h, fun _ => h, hall _ fun i first w htarget => ?_⟩
          cases hop : x.op <;> simp [lostOffsets, lost, hop, h, Piece.offsets, htarget]
        · refine ⟨_, completionStatus_notReady offset h, by simp, hall _ fun i first w htarget => ?_⟩
          cases hop : x.op <;> simp [lostOffsets, lost, hop, h, Piece.offsets, htarget]
      have hgoes' : ¬ (p = .disk ∧ x.state = .sent ∧ s.spindle.state ≠ .running ∧ st = .aborted) ∨ retries s x = false :=
        hgoes.imp (fun hnot ⟨hp, hsent, hspindle, hab⟩ => hnot ⟨hp, hsent, hspindle, haborted hab⟩)
          (fun hused => by simp [retries, hused])
      have hdeliver (u : State) : deliver p behind x st u = hostPieceMap behind x st u := by
        unfold deliver
        rw [howner]
        dsimp only
        unfold takeHostPiece
        rw [howner]
      rw [hexec, pieceCompletion_taken hready hlist hid hstate hother hst, event_some,
        takeCompletion_delivers hlist (hid ▸ hother) hgoes', hdeliver, hostPieceMap_gone, hmap]
      rfl
    case caught =>
      obtain ⟨rfl, hsent, hspindle, hcode⟩ := hcaught
      rw [← hid] at hother
      have hretries : retries s x = true := by
        have hunasked : ownerAsked s x = false := by
          unfold ownerAsked
          split
          next c howner =>
            rw [Option.any_eq_false]
            intro y hy
            simp [hasked c y howner hy]
          next => rfl
          next => rfl
        simp [retries, hused, hunasked]
      have hmap := map_modify_middle (fun y => { y with state := PieceState.waiting, retryUsed := true, timer := none })
        (fun y hy => hother y (List.mem_append_left _ hy)) (fun y hy => hother y (List.mem_append_right _ hy))
      rw [hexec, pieceCompletion_taken hready hlist hid hstate (hid ▸ hother) (completionStatus_aborted offset hcode),
        event_some, takeCompletion, if_pos hsent, if_pos ⟨rfl, hspindle, rfl⟩, takeCaughtAborted,
        show findPiece x.id s.disk.list = some (x, behind) from findPiece_here (p := .disk) hlist hother]
      dsimp only
      rw [if_pos hretries, modifyPiece, hlist, hmap]
      rfl

end Sys2Proof.Machine
end

section
/-! O49. The expiry of a piece timer and the fault of a port (R92, R94). -/

namespace Sys2Proof.Machine

open Sys2Proof.Safety

/-! ### Nothing joins a faulted port -/

/-- A faulted port is as it was. -/
def Still (p : Port) (s t : State) : Prop := (s.port p).status = .faulted → t.port p = s.port p

theorem port_congr {s t : State} (hflash : t.flash = s.flash) (hdisk : t.disk = s.disk) (p : Port) : t.port p = s.port p := by
  cases p
  · exact hflash
  · exact hdisk

section
variable {p : Port} {s t u : State}

theorem Still.of_frame (hflash : t.flash = s.flash) (hdisk : t.disk = s.disk) : Still p s t :=
  fun _ => port_congr hflash hdisk p

theorem Still.trans (h : Still p s t) (h' : Still p t u) : Still p s u := fun hfaulted => by
  have hport := h hfaulted
  rw [h' (by rw [hport]; exact hfaulted), hport]

theorem joinPort_still {q : Port} (x : Piece) (h : forcedAtIssue q s = false) : Still p s (joinPort q x s) := by
  intro hfaulted
  have hne : q ≠ p := by
    rintro rfl
    simp [forcedAtIssue, hfaulted] at h
  rw [joinPort_eq]
  cases p <;> cases q
  · exact absurd rfl hne
  · rfl
  · rfl
  · exact absurd rfl hne

theorem issuePiece_still (c : CtxId) (q : PieceSpec) (x x' : Context) (s : State) :
    Still p s (issuePiece c q x x' s).1 := by
  unfold issuePiece
  dsimp only
  split
  · exact Still.of_frame (by simp) (by simp)
  · split
    · exact Still.of_frame (by simp) (by simp)
    next hnot =>
      refine Still.trans (t := spendChoice (setCtx c (some { x' with piece := some (nextId s), poolWait := false }) s))
        (Still.of_frame (by simp) (by simp)) (joinPort_still _ ?_)
      rw [forcedAtIssue_congr (s := s) (by simp) (by simp) (by simp)]
      simpa using hnot

theorem advance_still (c : CtxId) (s : State) : Still p s (advance c s).1 := by
  unfold advance
  split
  · exact fun _ => rfl
  · split
    · exact Still.of_frame (by simp) (by simp)
    · exact Still.of_frame (by simp) (by simp)
    · exact issuePiece_still _ _ _ _ _

theorem startFill_still (c : CtxId) (x : Context) (s : State) : Still p s (startFill c x s).1 := by
  unfold startFill takeFillSlot
  dsimp only
  split
  · exact Still.of_frame (by simp) (by simp)
  · split
    · split
      · exact Still.of_frame (by simp) (by simp)
      · exact Still.trans (Still.of_frame (by simp) (by simp)) (advance_still _ _)
    · split
      · exact Still.trans (Still.of_frame (by simp) (by simp)) (advance_still _ _)
      · exact Still.of_frame (by simp) (by simp)

theorem startFlush_still (c : CtxId) (x : Context) (i : Nat) (s : State) : Still p s (startFlush c x i s).1 := by
  unfold startFlush
  dsimp only
  split
  · exact Still.of_frame (by simp) (by simp)
  · split
    · exact Still.trans (Still.of_frame (by simp) (by simp)) (advance_still _ _)
    · split
      · exact Still.trans (Still.of_frame (by simp) (by simp)) (advance_still _ _)
      · exact Still.of_frame (by simp) (by simp)

theorem startJob_still (c : CtxId) (s : State) : Still p s (startJob c s).1 := by
  have hload : Still p s (loadWatchdog c s) := Still.of_frame (by simp) (by simp)
  unfold startJob
  split
  · exact fun _ => rfl
  · split
    · exact hload.trans (startFill_still _ _ _)
    · split
      · exact hload.trans (startFlush_still _ _ _ _)
      · exact Still.of_frame (by simp) (by simp)

theorem follow_still (f : Follow) (s : State) : Still p s (follow f s).1 := by
  unfold follow
  split
  · exact startJob_still _ _
  · exact Still.trans (Still.of_frame (by simp) (by simp)) (advance_still _ _)

theorem runMover_still (n : Nat) : ∀ x : State × Option Follow, Still p x.1 (runMover n x) := by
  induction n with
  | zero => exact fun _ _ => rfl
  | succ n ih =>
    rintro ⟨s, f⟩
    cases f with
    | none => exact fun _ => rfl
    | some f => exact (follow_still f s).trans (ih _)

/-- Whoever takes a forced status leaves a faulted port as it is. -/
theorem deliver_still (q : Port) (behind : List Piece) (x : Piece) (s : State) :
    Still p s (deliver q behind x (forcedStatus q) s) := by
  have hforced : forcedStatus q ≠ .ok ∧ ∀ e, forcedStatus q ≠ .mediaError e := by cases q <;> simp [forcedStatus]
  obtain ⟨hok, hmedia⟩ := hforced
  have hhost : Still p s (takeHostPiece q behind x (forcedStatus q) s) := by
    unfold takeHostPiece
    dsimp only
    split
    · rw [fallbackRuns_plain fun _ _ e _ _ => hmedia e]
      exact Still.of_frame (by simp) (by simp)
    · exact Still.of_frame (by simp) (by simp)
    · exact Still.of_frame (by simp) (by simp)
  unfold deliver
  split
  · rw [moverTake, if_neg hok]
    exact Still.trans (Still.of_frame (by simp) (by simp)) (runMover_still _ _)
  · exact hhost
  · exact hhost

end

/-! ### Every listed piece completes -/

/-- A port after a piece has completed without a message (R86, R94). -/
def forcedOut (u : PortUnit) (x : Piece) : PortUnit :=
  { u with
    list := u.list.filter (fun y => y.id != x.id)
    withheld := if x.state = .waiting then u.withheld else u.withheld ++ [x.id] }

theorem forcePiece_port {p : Port} {s : State} {id : Nat} {x : Piece} {behind : List Piece}
    (hfaulted : (s.port p).status = .faulted) (hfind : findPiece id (s.port p).list = some (x, behind)) (hid : x.id = id) :
    (forcePiece p s id).port p = forcedOut (s.port p) x := by
  have hcomplete {u : State} (hu : (u.port p).status = .faulted) (hlist : (u.port p).list = (s.port p).list) :
      (completePiece p id (forcedStatus p) u).port p = (u.port p).without id := by
    rw [completePiece, hlist, hfind]
    dsimp only
    rw [deliver_still p behind x (setPort p ((u.port p).without id) u) (by rw [setPort_port]; exact hu), setPort_port]
  rw [forcePiece, hfind]
  dsimp only
  by_cases hwaiting : x.state = .waiting
  · rw [if_pos hwaiting, hcomplete hfaulted rfl, forcedOut, if_pos hwaiting, hid]
    rfl
  · have hport : (withhold p id s).port p = { s.port p with withheld := (s.port p).withheld ++ [id] } := setPort_port ..
    rw [if_neg hwaiting, hcomplete (by rw [hport]; exact hfaulted) (by rw [hport]), hport, forcedOut, if_neg hwaiting, hid]
    rfl

theorem findPiece_id {id : Nat} {x : Piece} {behind : List Piece} : ∀ {l : List Piece},
    findPiece id l = some (x, behind) → x.id = id
  | [], h => by simp [findPiece] at h
  | y :: l, h => by
    rw [findPiece] at h
    split at h
    next hy =>
      cases h
      exact hy
    next => exact findPiece_id h

/-- A forced completion leaves the status and the timeout count of a faulted port. -/
theorem forcePiece_faulted {p : Port} {s : State} (id : Nat) (hfaulted : (s.port p).status = .faulted) :
    ((forcePiece p s id).port p).status = .faulted ∧
      ((forcePiece p s id).port p).timeouts = (s.port p).timeouts := by
  cases hfind : findPiece id (s.port p).list with
  | none =>
    have hsame : forcePiece p s id = s := by rw [forcePiece, hfind]
    rw [hsame]
    exact ⟨hfaulted, rfl⟩
  | some a =>
    obtain ⟨x, behind⟩ := a
    rw [forcePiece_port hfaulted hfind (findPiece_id hfind)]
    exact ⟨hfaulted, rfl⟩

theorem foldl_forcePiece_faulted {p : Port} (ids : List Nat) : ∀ {s : State}, (s.port p).status = .faulted →
    ((ids.foldl (forcePiece p) s).port p).status = .faulted ∧
      ((ids.foldl (forcePiece p) s).port p).timeouts = (s.port p).timeouts := by
  induction ids with
  | nil => exact fun h => ⟨h, rfl⟩
  | cons id ids ih =>
    intro s hfaulted
    obtain ⟨hstatus, htimeouts⟩ := forcePiece_faulted id hfaulted
    obtain ⟨hstatus', htimeouts'⟩ := ih hstatus
    exact ⟨hstatus', htimeouts'.trans htimeouts⟩

/-- All pieces of a faulted port complete, in list order (R94). -/
theorem foldl_forcePiece_all {p : Port} : ∀ {l : List Piece} {s : State}, (s.port p).status = .faulted →
    (s.port p).list = l → (l.map (·.id)).Nodup →
    (((l.map (·.id)).foldl (forcePiece p) s).port p).list = [] ∧
    (((l.map (·.id)).foldl (forcePiece p) s).port p).withheld =
      (s.port p).withheld ++ (l.filter (fun y => y.state != .waiting)).map (·.id)
  | [], s, _, hlist, _ => ⟨hlist, by simp⟩
  | x :: l, s, hfaulted, hlist, hnodup => by
    obtain ⟨hfresh, hrest⟩ := List.nodup_cons.mp hnodup
    have hfind : findPiece x.id (s.port p).list = some (x, l) := by
      rw [hlist, findPiece, if_pos rfl]
    have hport := forcePiece_port hfaulted hfind rfl
    have hleft : ((forcePiece p s x.id).port p).list = l := by
      rw [hport, forcedOut]
      dsimp only
      rw [hlist, List.filter_cons_of_neg (by simp), List.filter_eq_self]
      intro y hy
      have hne : y.id ≠ x.id := fun heq => hfresh (List.mem_map.mpr ⟨y, hy, heq⟩)
      simpa using hne
    obtain ⟨hempty, hwithheld⟩ := foldl_forcePiece_all (forcePiece_faulted x.id hfaulted).1 hleft hrest
    refine ⟨hempty, hwithheld.trans ?_⟩
    rw [hport, forcedOut]
    dsimp only
    by_cases hwaiting : x.state = .waiting
    · rw [if_pos hwaiting, List.filter_cons_of_neg (by simp [hwaiting])]
    · rw [if_neg hwaiting, List.filter_cons_of_pos (by simpa using hwaiting), List.map_cons, List.append_assoc,
        List.singleton_append]

/-! ### The fault of a port -/

/-- The port is FAULTED with its timeout count at 0, its pieces still listed (R94). -/
def faulting (p : Port) (s : State) : State := setPort p { s.port p with status := .faulted, timeouts := 0 } s

/-- What a fault does beside the port itself (R94, R166). -/
def faultEnd (p : Port) (s : State) : State :=
  match p with
  | .flash => if s.sup.mode = .online then enterFlashLost s else s
  | .disk => faultSpindle s

theorem faultPort_eq (p : Port) (s : State) : faultPort p s = faultEnd p (setFlag .portFault
    (((s.port p).list.map (·.id)).foldl (forcePiece p) (faulting p s))) := by
  have hids : (((faulting p s).port p).list.filter (fun _ => true)).map (·.id) = (s.port p).list.map (·.id) := by
    rw [List.filter_eq_self.mpr fun _ _ => rfl, faulting, setPort_port]
  have hforced : forceWhere p (fun _ => true) (faulting p s) =
      ((s.port p).list.map (·.id)).foldl (forcePiece p) (faulting p s) := by rw [forceWhere, hids]
  rw [← hforced]
  cases p <;> rfl

@[simp] theorem faultEnd_frame (p : Port) (s : State) : (faultEnd p s).commands = s.commands ∧
    (faultEnd p s).map = s.map ∧ (faultEnd p s).flash = s.flash ∧ (faultEnd p s).disk = s.disk := by
  cases p
  · show (if s.sup.mode = .online then enterFlashLost s else s).commands = _ ∧ _
    unfold faultEnd
    dsimp only
    split <;> simp
  · simp [faultEnd]

theorem faultSpindle_sup_grows (s : State) {n : Nat} (h : s.sup.flags.getLsbD n = true) :
    (faultSpindle s).sup.flags.getLsbD n = true :=
  (faultSpindle_sup (k0 := s.sup) (SupKept.rfl' _)).grows n h

theorem faultSpindle_mode (s : State) : (faultSpindle s).sup.mode = s.sup.mode := by
  unfold faultSpindle markStartFailed
  dsimp only
  split <;> simp

theorem noteStopped_spindle (phase : SpinDownPhase) (s : State) :
    (noteStopped phase s).spindle = { s.spindle with pendingSpinDown := false } := by
  unfold noteStopped placeHold
  dsimp only
  split <;> rfl

theorem faultSpindle_state (s : State) : (faultSpindle s).spindle.state = .stopped := by
  rw [faultSpindle, noteStopped_spindle]
  unfold markStartFailed setFlag
  split <;> rfl

section
variable (p : Port) (s : State)

theorem faultPort_port : ((faultPort p s).port p).status = .faulted ∧ ((faultPort p s).port p).timeouts = 0 ∧
    (((s.port p).list.map (·.id)).Nodup → ((faultPort p s).port p).list = [] ∧ ((faultPort p s).port p).withheld =
      (s.port p).withheld ++ ((s.port p).list.filter (fun y => y.state != .waiting)).map (·.id)) := by
  have hport : (faulting p s).port p = { s.port p with status := .faulted, timeouts := 0 } := setPort_port ..
  have hsame : (faultPort p s).port p =
      (((s.port p).list.map (·.id)).foldl (forcePiece p) (faulting p s)).port p := by
    rw [faultPort_eq]
    exact port_congr (by simp) (by simp) p
  have hfaulted : ((faulting p s).port p).status = .faulted := by rw [hport]
  obtain ⟨hstatus, htimeouts⟩ := foldl_forcePiece_faulted ((s.port p).list.map (·.id)) hfaulted
  rw [hsame]
  refine ⟨hstatus, by rw [htimeouts, hport], fun hnodup => ?_⟩
  obtain ⟨hlist, hwithheld⟩ := foldl_forcePiece_all hfaulted (by rw [hport]) hnodup
  exact ⟨hlist, by rw [hwithheld, hport]⟩

theorem faultPort_flag : (faultPort p s).sup.flags.getLsbD 10 = true := by
  have hset (u : State) : (setFlag .portFault u).sup.flags.getLsbD 10 = true := by
    rw [setFlag_flags]
    simp [EventFlag.bit]
  rw [faultPort_eq]
  cases p
  · unfold faultEnd
    dsimp only
    split
    · exact hset _
    · exact hset _
  · exact faultSpindle_sup_grows _ (hset _)

theorem foldl_forcePiece_mode (ids : List Nat) : ∀ u : State, (ids.foldl (forcePiece p) u).sup.mode = u.sup.mode := by
  induction ids with
  | nil => exact fun _ => rfl
  | cons id ids ih =>
    intro u
    rw [List.foldl_cons, ih]
    simp

theorem faultPort_mode_flash :
    (faultPort .flash s).sup.mode = if s.sup.mode = .online then .flashLost else s.sup.mode := by
  have hmode : (setFlag .portFault (((s.port .flash).list.map (·.id)).foldl (forcePiece .flash) (faulting .flash s))).sup.mode =
      s.sup.mode := foldl_forcePiece_mode ..
  rw [faultPort_eq]
  unfold faultEnd
  dsimp only
  rw [hmode]
  split
  · rfl
  · exact hmode

theorem faultPort_disk : (faultPort .disk s).spindle.state = .stopped ∧ (faultPort .disk s).sup.mode = s.sup.mode := by
  rw [faultPort_eq]
  refine ⟨faultSpindle_state _, (faultSpindle_mode _).trans ?_⟩
  exact foldl_forcePiece_mode ..

end

/-- The one listed piece of a port is handed to the command that owns it. -/
theorem forcePiece_single {p : Port} {s : State} {x : Piece} {t : Nat} (hlist : (s.port p).list = [x])
    (howner : x.owner = .command t) :
    ∃ u : PortUnit, forcePiece p s x.id = takeHostPiece p [] x (forcedStatus p) (setPort p u s) := by
  have hfind : findPiece x.id (s.port p).list = some (x, []) := by rw [hlist, findPiece, if_pos rfl]
  have hdeliver (v : State) : deliver p [] x (forcedStatus p) v = takeHostPiece p [] x (forcedStatus p) v := by
    unfold deliver
    rw [howner]
  rw [forcePiece, hfind]
  dsimp only
  by_cases hwaiting : x.state = .waiting
  · rw [if_pos hwaiting, completePiece, hfind]
    exact ⟨_, hdeliver _⟩
  · have hport : ((withhold p x.id s).port p).list = (s.port p).list := by rw [withhold, setPort_port]
    rw [if_neg hwaiting, completePiece, hport, hfind]
    dsimp only
    rw [hdeliver]
    unfold withhold
    rw [setPort_setPort]
    exact ⟨_, rfl⟩

theorem hostPieceMap_map_congr {s u : State} (behind : List Piece) (x : Piece) (st : PieceStatus) (h : u.map = s.map) :
    (hostPieceMap behind x st u).map = (hostPieceMap behind x st s).map := by
  unfold hostPieceMap
  split
  · exact modifySlot_map_congr _ _ h
  · exact h

theorem piece_congr {s u : State} (x : Piece) (h : u.map = s.map) :
    firstLba u x = firstLba s x ∧ pieceSlot u x = pieceSlot s x := by
  have hslot (i : Nat) : u.slot i = s.slot i := by rw [State.slot, State.slot, h]
  unfold firstLba pieceSlot
  cases x.target with
  | flash i first => exact ⟨by dsimp only; rw [hslot], hslot i⟩
  | disk lba => exact ⟨rfl, rfl⟩
  | none => exact ⟨rfl, rfl⟩

/-- The one listed piece of a port that faults is a command's: what the fault leaves of the command and of the slots (R77,
R82, R94). -/
theorem faultPort_single {p : Port} {s : State} {x : Piece} {r : CommandRec} {others others' : List CommandRec}
    (hlist : (s.port p).list = [x]) (howner : x.owner = .command r.tag) (hcommands : s.commands = others ++ r :: others')
    (htags : ∀ y ∈ others ++ others', y.tag ≠ r.tag) (hrouting : r.routingDone = false) :
    (faultPort p s).commands =
      others ++ mergeHostPiece p x (forcedStatus p) (firstLba s x) (pieceSlot s x) r :: others' ∧
    (faultPort p s).map = (hostPieceMap [] x (forcedStatus p) s).map := by
  have hmedia : ∀ e, forcedStatus p ≠ .mediaError e := by cases p <;> simp [forcedStatus]
  obtain ⟨u, hforce⟩ := forcePiece_single (s := faulting p s) (by rw [faulting, setPort_port]; exact hlist) howner
  have hkept : (setPort p u (faulting p s)).map = s.map ∧ (setPort p u (faulting p s)).commands = s.commands := by
    cases p <;> exact ⟨rfl, rfl⟩
  obtain ⟨hmap, hcommands'⟩ := hkept
  obtain ⟨hlba, hslot⟩ := piece_congr x hmap
  obtain ⟨htag, hrouting', _, _⟩ := mergeHostPiece_frame p x (forcedStatus p) (firstLba s x) (pieceSlot s x) r
  have hfind := find?_tag_middle (r := mergeHostPiece p x (forcedStatus p) (firstLba s x) (pieceSlot s x) r)
    (before := others) (behind := others') (by rwa [htag])
  have htaken := takeHostPiece_command (p := p) (behind := []) (x := x) (st := forcedStatus p)
    (hcommands'.trans hcommands) htags howner
  rw [fallbackRuns_plain fun _ _ e _ _ => hmedia e, List.foldl_nil, hlba, hslot, completeIfDone_open
    (by rw [htag] at hfind; exact hfind) (by simp [CommandRec.isDone, hrouting', hrouting])] at htaken
  have hfault : faultPort p s = faultEnd p (setFlag .portFault (forcePiece p (faulting p s) x.id)) := by
    rw [faultPort_eq, hlist]
    rfl
  rw [hfault, hforce, htaken]
  obtain ⟨hc, hm, _, _⟩ := faultEnd_frame p (setFlag .portFault
    { hostPieceMap [] x (forcedStatus p) (setPort p u (faulting p s)) with
      commands := others ++ mergeHostPiece p x (forcedStatus p) (firstLba s x) (pieceSlot s x) r :: others' })
  exact ⟨hc, hm.trans (hostPieceMap_map_congr _ _ _ hmap)⟩

/-! ### The expiry -/

theorem settle_port (b s : State) (p : Port) : ((settle b s).port p).status = (s.port p).status ∧
    ((settle b s).port p).timeouts = (s.port p).timeouts ∧ ((settle b s).port p).list = (s.port p).list ∧
    ((settle b s).port p).withheld = (s.port p).withheld := by
  cases p
  · rw [State.port, State.port, settle_flash]
    exact ⟨rfl, rfl, rfl, rfl⟩
  · obtain ⟨hlist, hwithheld, htimeouts, hstatus⟩ := settle_lists b s
    exact ⟨hstatus, htimeouts, hlist, hwithheld⟩

/-- The command's record at the fault of the port of its piece (R77, R81, R94). -/
theorem mergeHostPiece_forced {p : Port} {x : Piece} {lba : Nat} {r0 : SlotRec} {r : CommandRec} :
    mergeHostPiece p x (forcedStatus p) (some lba) r0 r = { r with
      outstanding := r.outstanding - 1
      fallbackPieces := if p = .disk then r.fallbackPieces.filter (fun n => n != x.id) else r.fallbackPieces
      status := r.status.worse (if p = .flash then .flashUnavailable
        else if x.id ∈ r.fallbackPieces then .mediaError else .diskUnavailable)
      errorLba := lowerLba r.errorLba (some lba) } := by
  cases p with
  | flash =>
    rw [mergeHostPiece_plain (by simp) (by simp [forcedStatus])]
    rfl
  | disk =>
    by_cases hin : x.id ∈ r.fallbackPieces
    · rw [mergeHostPiece_fallback hin]
      simp only [hin, if_true]
      rfl
    · have hkept : r.fallbackPieces.filter (fun n => n != x.id) = r.fallbackPieces := by
        refine List.filter_eq_self.mpr fun n hn => ?_
        simpa using fun heq : n = x.id => hin (heq ▸ hn)
      rw [mergeHostPiece_plain (by simp [hin]) (by simp [forcedStatus])]
      simp only [hin, if_true, if_false, hkept]
      rfl

/-- The state in which a piece timer of a piece that was SENT or ABORTING has expired: the piece is ABORTING, and nothing
but the port's messages has changed beside it (R92). -/
structure TimedOut (p : Port) (s w : State) (before : List Piece) (x : Piece) (behind : List Piece) : Prop where
  list : (w.port p).list = before ++ { x with state := .aborting } :: behind
  withheld : (w.port p).withheld = (s.port p).withheld
  map : w.map = s.map
  commands : w.commands = s.commands
  mode : w.sup.mode = s.sup.mode

section
variable {p : Port} {s w : State} {before behind : List Piece} {x : Piece}

/-- The ids of the list, and of those of its pieces that were sent, are those of before the expiry. -/
theorem TimedOut.ids (h : TimedOut p s w before x behind) (hlist : (s.port p).list = before ++ x :: behind)
    (hstate : x.state ≠ .waiting) :
    (w.port p).list.map (·.id) = (s.port p).list.map (·.id) ∧
    ((w.port p).list.filter (fun y => y.state != .waiting)).map (·.id) =
      ((s.port p).list.filter (fun y => y.state != .waiting)).map (·.id) := by
  rw [h.list, hlist]
  exact ⟨by simp, by simp [hstate]⟩

/-- The command of the port's one piece at the port's fault (R77, R82, R94). -/
theorem TimedOut.command {r : CommandRec} {others others' : List CommandRec} {lba : Nat}
    (h : TimedOut p s w [] x []) (howner : x.owner = .command r.tag) (hcommands : s.commands = others ++ r :: others')
    (htags : ∀ y ∈ others ++ others', y.tag ≠ r.tag) (hrouting : r.routingDone = false)
    (hlba : firstLba s x = some lba) :
    (faultPort p w).commands = others ++ { r with
      outstanding := r.outstanding - 1
      fallbackPieces := if p = .disk then r.fallbackPieces.filter (fun n => n != x.id) else r.fallbackPieces
      status := r.status.worse (if p = .flash then .flashUnavailable
        else if x.id ∈ r.fallbackPieces then .mediaError else .diskUnavailable)
      errorLba := lowerLba r.errorLba (some lba) } :: others' ∧
    (faultPort p w).map = (hostPieceMap [] x (forcedStatus p) s).map := by
  obtain ⟨hfaulted, hmap⟩ := faultPort_single h.list howner (h.commands.trans hcommands) htags hrouting
  have hfirst : firstLba w { x with state := .aborting } = some lba := (piece_congr x h.map).1.trans hlba
  rw [hfaulted, hfirst, mergeHostPiece_forced]
  exact ⟨rfl, hmap.trans (hostPieceMap_map_congr [] x (forcedStatus p) h.map)⟩

end

/-- The slot of a flash piece that the port's fault completes (R6, R82). -/
theorem hostPieceMap_forced {s : State} {x : Piece} {i first : Nat} (p : Port) (htarget : x.target = .flash i first) :
    hostPieceMap [] x (forcedStatus p) s = modifySlot i (fun w => { w with
      inflight := w.inflight - 1
      valid := w.valid &&& ~~~(if x.op = .write then rangeSet first x.count else 0#256)
      dirty := w.dirty &&& ~~~(if x.op = .write then rangeSet first x.count else 0#256)
      redirty := w.redirty &&& ~~~(if x.op = .write then rangeSet first x.count else 0#256) }) s := by
  have hoffsets : x.offsets = rangeSet first x.count := by
    unfold Piece.offsets
    rw [htarget]
  rw [hostPieceMap_lost htarget]
  refine congrArg (fun f => modifySlot i f s) (funext fun w => ?_)
  have hlost : lostOffsets [] x (forcedStatus p) i first w = if x.op = .write then rangeSet first x.count else 0#256 := by
    unfold lostOffsets
    have hkept : x.offsets &&& ~~~(laterWrites i []) = rangeSet first x.count := by
      rw [laterWrites, List.foldl_nil, BitVec.not_zero, BitVec.and_allOnes, hoffsets]
    cases x.op
    · rw [if_neg (by decide)]
      cases p <;> rfl
    · rw [if_pos rfl]
      cases p <;> exact hkept
    · rw [if_neg (by decide)]
  rw [hlost]
  rfl

/-- Settles O49. -/
theorem pieceTimeoutSettled : Obligations.PieceTimeout := by
  unfold Obligations.PieceTimeout
  intro s p id x before behind u hlist hid hother htimer
  rw [← hid] at hother
  have hexec : exec (.pieceTimeout p id) s = .next (event s (pieceTimeout p id.toNat s)) := rfl
  have hmap := map_modify_middle (fun y => { y with state := PieceState.aborting })
    (fun y hy => hother y (List.mem_append_left _ hy)) (fun y hy => hother y (List.mem_append_right _ hy))
  have hruns : ¬ x.timer.isNone = true := by simpa using htimer
  have hsent (hstate : x.state = .sent) : pieceTimeout p id.toNat s = some (countTimeout p (setPort p { u with
      list := before ++ { x with state := .aborting } :: behind, sent := u.sent ++ [.abort id.toNat] } s)) := by
    unfold pieceTimeout
    rw [← hid, findPiece_here hlist hother]
    dsimp only
    rw [if_neg hruns, hstate]
    dsimp only
    rw [sendMessage, modifyPiece, setPort_port, setPort_setPort, hlist, hmap]
  have haborting (hstate : x.state = .aborting) : pieceTimeout p id.toNat s = some (countTimeout p s) := by
    unfold pieceTimeout
    rw [← hid, findPiece_here hlist hother]
    dsimp only
    rw [if_neg hruns, hstate]
  refine ⟨fun hstate hmore => ?_, fun hstate hmore => ?_, fun hstate hend => ?_⟩
  · rw [hexec, hsent hstate, event_some, countTimeout, setPort_port, if_pos hmore, setTimeouts, setPort_port, setPort_setPort]
  · rw [hexec, haborting hstate, event_some, countTimeout, if_pos hmore]
    rfl
  · have hfaults : ∃ w, pieceTimeout p id.toNat s = some (faultPort p w) ∧ TimedOut p s w before x behind := by
      cases hs : x.state with
      | waiting => exact absurd hs hstate
      | sent =>
        have htimed (w : State) (htimeouts : (w.port p).timeouts = u.timeouts) : countTimeout p w = faultPort p w := by
          rw [countTimeout, htimeouts, if_neg (Nat.not_lt.mpr hend)]
        refine ⟨_, (hsent hs).trans (congrArg some (htimed _ (by rw [setPort_port]))), ⟨?_, ?_, ?_, ?_, ?_⟩⟩
        all_goals cases p <;> rfl
      | aborting =>
        refine ⟨s, (haborting hs).trans (congrArg some ?_), ⟨?_, rfl, rfl, rfl, rfl⟩⟩
        · rw [countTimeout, if_neg (Nat.not_lt.mpr hend)]
        · rw [← hs]
          exact hlist
    obtain ⟨w, htakes, hw⟩ := hfaults
    obtain ⟨hids, hkept⟩ := hw.ids hlist hstate
    obtain ⟨hstatus, htimeouts, hall⟩ := faultPort_port p w
    obtain ⟨hstatus', htimeouts', hlist', hwithheld'⟩ := settle_port s (faultPort p w) p
    refine ⟨faultPort p w, _, by rw [hexec, htakes, event_some], rfl, hstatus'.trans hstatus, htimeouts'.trans htimeouts,
      ?_, fun hnodup => ?_, ?_, ?_, ?_⟩
    · rw [settle_flags, faultPort_flag]
      rfl
    · obtain ⟨hempty, hleft⟩ := hall (by rw [hids]; exact hnodup)
      rw [hlist', hwithheld', hleft, hkept, hw.withheld]
      exact ⟨hempty, rfl⟩
    · rintro rfl
      rw [(settle_mode ..).1, faultPort_mode_flash, hw.mode]
    · rintro rfl
      obtain ⟨hstopped, hmode⟩ := faultPort_disk w
      refine ⟨(settle_stopped_stands hstopped fun ⟨_, hready, _⟩ => ?_).1, by rw [(settle_mode ..).1, hmode, hw.mode]⟩
      exact absurd (hready.symm.trans hstatus) (by decide)
    · rintro r others others' lba rfl rfl howner hcommands htags hrouting
        (⟨hp, htarget⟩ | ⟨hp, i, first, chunk, htarget, hchunk, hlba⟩)
      · obtain ⟨hc, hm⟩ := hw.command howner hcommands htags hrouting (firstLba_disk htarget)
        refine ⟨hc, ?_⟩
        rw [hm, htarget, hostPieceMap_none _ _ (by simp [htarget])]
      · obtain ⟨hc, hm⟩ := hw.command howner hcommands htags hrouting (hlba ▸ firstLba_flash htarget hchunk)
        refine ⟨hc, ?_⟩
        rw [hm, htarget, hostPieceMap_forced p htarget]

end Sys2Proof.Machine
end

section
/-! The Mover: services, the issue of a piece, the end of a job, and what the end of the event leaves of them (R121 to
R132). -/

namespace Sys2Proof.Machine

open Sys2Proof.Safety

/-! ### Services -/

theorem PerClass.set_set {α : Type} (p : PerClass α) (k : JobClass) (v w : α) : (p.set k v).set k w = p.set k w := by
  cases k <;> rfl

section
variable {st : ServiceState} {s : State} {k : JobClass} {j : Job} {c : CtxId}

theorem serviceIn_holds (h : serviceIn st s = some (k, j, c)) : s.arbiter.service.get k = .job st j c := by
  obtain ⟨y, _, hy⟩ := List.exists_of_findSome?_eq_some h
  split at hy
  next st' j' c' hget =>
    split at hy
    next hst =>
      cases hy
      rw [hget, hst]
    next => contradiction
  next => contradiction
  next => contradiction

theorem serviceIn_none (h : serviceIn st s = none) : s.arbiter.service.get k ≠ .job st j c := by
  intro hk
  have hnone := List.findSome?_eq_none_iff.mp h k (mem_allClasses k)
  rw [hk] at hnone
  simp at hnone

theorem serviceIn_eq_none (h : ∀ y j c, s.arbiter.service.get y ≠ .job st j c) : serviceIn st s = none := by
  cases hs : serviceIn st s with
  | none => rfl
  | some a => exact absurd (serviceIn_holds hs) (h a.1 a.2.1 a.2.2)

theorem serviceIn_eq_some (h : s.arbiter.service.get k = .job st j c)
    (hother : ∀ y j' c', y ≠ k → s.arbiter.service.get y ≠ .job st j' c') : serviceIn st s = some (k, j, c) := by
  cases hs : serviceIn st s with
  | none => exact absurd h (serviceIn_none hs)
  | some a =>
    obtain ⟨k', j', c'⟩ := a
    have hget := serviceIn_holds hs
    have hk : k' = k := Decidable.byContradiction fun hne => hother k' j' c' hne hget
    rw [hk, h] at hget
    cases hget
    rw [hk]

theorem serviceStateOf_job (h : s.arbiter.service.get k = .job st j c) : serviceStateOf k s = some st := by
  unfold serviceStateOf
  rw [h]

theorem setServiceState_job (h : s.arbiter.service.get k = .job st j c) (st' : ServiceState) :
    setServiceState k st' s = setService k (.job st' j c) s := by
  unfold setServiceState
  rw [h]

end

/-! ### What an event still has to do -/

theorem runMover_none (n : Nat) (s : State) : runMover n (s, none) = s := by
  cases n <;> rfl

@[simp] theorem setCtx_ctx (c : CtxId) (v : Option Context) (s : State) : (setCtx c v s).ctx c = v := by
  cases c <;> rfl

theorem setCtx_setCtx (c : CtxId) (v w : Option Context) (s : State) : setCtx c w (setCtx c v s) = setCtx c w s := by
  cases c <;> rfl

theorem modifyCtx_some {c : CtxId} {x : Context} {s : State} (h : s.ctx c = some x) (f : Context → Context) :
    modifyCtx c f s = setCtx c (some (f x)) s := by
  rw [modifyCtx, h, Option.map_some]

/-! ### The issue of a piece -/

/-- A piece that joins its port's list (R131). -/
theorem issuePiece_joins {c : CtxId} {q : PieceSpec} {x x' : Context} {s : State} (hfree : freeRecords s ≠ 0)
    (hopen : forcedAtIssue q.port s = false) : issuePiece c q x x' s =
      (setPort q.port (joined (s.port q.port)
          ⟨nextId s, .context c, q.op, q.target, q.count, q.buffer, false, .waiting, none⟩
          (maySend q.port s) (pieceLimit s q.port))
        { setCtx c (some { x' with piece := some (nextId s), poolWait := false }) s with choice := s.choice + 1 }, none) := by
  rw [issuePiece]
  dsimp only
  rw [if_neg hfree, if_neg (by simp [hopen]), joinPort_eq]
  have hframe := setCtx_frame c (some { x' with piece := some (nextId s), poolWait := false }) s
  cases q.port <;> simp only [State.port, maySend, pieceLimit, spendChoice, hframe]

section
variable {c : CtxId} {x : Context} {s : State}

theorem advance_issues {q : PieceSpec} {x' : Context} (hx : s.ctx c = some x) (hwork : nextWork c x s = .issue q x') :
    advance c s = issuePiece c q x x' s := by
  unfold advance
  rw [hx]
  dsimp only
  rw [hwork]

theorem advance_finishes (hx : s.ctx c = some x) (hwork : nextWork c x s = .finish) : advance c s = endJob c .done s := by
  unfold advance
  rw [hx]
  dsimp only
  rw [hwork]

theorem advance_checks (hx : s.ctx c = some x) (hwork : nextWork c x s = .check) : advance c s = evictCheck c x s := by
  unfold advance
  rw [hx]
  dsimp only
  rw [hwork]

end

/-! ### The end of a job -/

theorem takeJobEnd_paced {k : JobClass} {cause : Option AbortCause} {s : State} (hheld : s.held .mover = false)
    (hcause : cause ≠ some .held) : takeJobEnd k cause s = if s.params.pacing.get k = .auto then endServiceOf k s
      else setFlag .ackWait (setService k .awaitAck s) := by
  unfold takeJobEnd
  rw [if_neg (by simp [hheld, hcause])]
  cases s.params.pacing.get k <;> rfl

/-- The Arbiter of a class whose job has ended (R118, R124, R125). -/
theorem takeJobEnd_arbiter_paced {k : JobClass} {cause : Option AbortCause} {s : State} (hheld : s.held .mover = false)
    (hcause : cause ≠ some .held) : (takeJobEnd k cause s).arbiter = { s.arbiter with
      service := s.arbiter.service.set k (if s.params.pacing.get k = .auto then .none else .awaitAck)
      lowest := if s.params.pacing.get k = .auto ∧ s.params.priority = .rotating then k else s.arbiter.lowest } := by
  rw [takeJobEnd_paced hheld hcause]
  by_cases hauto : s.params.pacing.get k = .auto
  · rw [if_pos hauto, if_pos hauto]
    by_cases hrotating : s.params.priority = .rotating
    · rw [if_pos ⟨hauto, hrotating⟩]
      exact congrArg State.arbiter (if_pos hrotating)
    · rw [if_neg (by simp [hrotating])]
      exact congrArg State.arbiter (if_neg hrotating)
  · rw [if_neg hauto, if_neg hauto, if_neg (by simp [hauto])]
    rfl

theorem takeJobEnd_ackWait {k : JobClass} {cause : Option AbortCause} {s : State} (hheld : s.held .mover = false)
    (hcause : cause ≠ some .held) (hack : s.params.pacing.get k = .ack) :
    (takeJobEnd k cause s).sup.flags.getLsbD 5 = true := by
  rw [takeJobEnd_paced hheld hcause, if_neg (by simp [hack]), setFlag_flags]
  simp [EventFlag.bit]

/-- The state that the end of the job of context `c` leaves (R132). -/
def endedJob (c : CtxId) (x : Context) (e : JobEnd) (s : State) : State :=
  judgeStall (takeJobEnd x.cls x.abort (setCtx c none (recordEnd x e (releaseJobSlot x s))))

section
variable {c : CtxId} {x : Context} {e : JobEnd} {s : State}

theorem endedJob_held (hheld : s.held .mover = false) :
    (setCtx c none (recordEnd x e (releaseJobSlot x s))).held .mover = false := by
  have hkept : SupKept s.sup (setCtx c none (recordEnd x e (releaseJobSlot x s))).sup := by simp
  rw [State.held, hkept.holds]
  exact hheld

theorem endedJob_arbiter (hheld : s.held .mover = false) (hcause : x.abort ≠ some .held) :
    (endedJob c x e s).arbiter = { s.arbiter with
      service := s.arbiter.service.set x.cls (if s.params.pacing.get x.cls = .auto then .none else .awaitAck)
      lowest := if s.params.pacing.get x.cls = .auto ∧ s.params.priority = .rotating then x.cls
        else s.arbiter.lowest } := by
  have hjudged : (endedJob c x e s).arbiter =
      (takeJobEnd x.cls x.abort (setCtx c none (recordEnd x e (releaseJobSlot x s)))).arbiter := by simp [endedJob]
  rw [hjudged, takeJobEnd_arbiter_paced (endedJob_held hheld) hcause]
  simp

/-- The end of the ACTIVE job, with none SUSPENDED behind it (R124, R132). -/
theorem endJob_active {j : Job} {c' : CtxId} (hheld : s.held .mover = false) (hx : s.ctx c = some x)
    (hcause : x.abort ≠ some .held) (hactive : s.arbiter.service.get x.cls = .job .active j c')
    (hlast : ∀ y j c, s.arbiter.service.get y ≠ .job .suspended j c) : endJob c e s = (endedJob c x e s, none) := by
  have hnone : resumeSuspended (endedJob c x e s) = (endedJob c x e s, none) := by
    unfold resumeSuspended
    rw [serviceIn_eq_none]
    intro y j' c''
    rw [endedJob_arbiter hheld hcause]
    dsimp only
    rw [PerClass.get_set]
    split
    · split <;> exact nofun
    · exact hlast y j' c''
  rw [← hnone]
  unfold endJob
  rw [hx]
  dsimp only
  rw [if_neg (by simp [hheld]), serviceStateOf_job hactive]
  rfl

end

end Sys2Proof.Machine
end

section
/-! What the end of a job and the end of the event leave of the part (R124, R125, R132, R141, R143). -/

namespace Sys2Proof.Machine

open Sys2Proof.Safety

theorem settle_flag_grows {b s : State} {n : Nat} (h : s.sup.flags.getLsbD n = true) :
    (settle b s).sup.flags.getLsbD n = true :=
  (settle_sup (k0 := s.sup) b (SupKept.rfl' _)).grows n h

theorem settle_ctx_none {b s : State} {c : CtxId} (h : s.ctx c = none) : (settle b s).ctx c = none := by
  rcases settle_ctx b s c with hc | hc
  · rw [hc, h]
  · rw [hc, h]
    rfl

section
variable {c : CtxId} {x : Context} {e : JobEnd} {s : State}

theorem endedJob_mover (c : CtxId) (x : Context) (e : JobEnd) (s : State) :
    (endedJob c x e s).mover = (setCtx c none (recordEnd x e s)).mover := by
  have hkept : (endedJob c x e s).mover = (setCtx c none (recordEnd x e (releaseJobSlot x s))).mover := by simp [endedJob]
  rw [hkept]
  cases c <;> cases e <;> simp [setCtx, recordEnd]

theorem endedJob_map {slot : Nat} (hslot : x.slot = some slot) : (endedJob c x e s).map =
    (modifySlot slot (if x.action = .fill then SlotRec.afterFill else SlotRec.afterFlush) s).map := by
  simp [endedJob, releaseJobSlot_known hslot]

theorem endedJob_grows {n : Nat} (h : s.sup.flags.getLsbD n = true) : (endedJob c x e s).sup.flags.getLsbD n = true := by
  have hkept : SupKept s.sup (endedJob c x e s).sup := judgeStall_sup (takeJobEnd_sup _ _ (by simp))
  exact hkept.grows n h

theorem endedJob_failed {reason : FailReason} {lba : Option Nat} :
    (endedJob c x (.failed reason lba) s).sup.flags.getLsbD 4 = true := by
  have hset : (recordEnd x (.failed reason lba) (releaseJobSlot x s)).sup.flags.getLsbD 4 = true := by
    rw [recordEnd, setFlag_flags]
    simp [EventFlag.bit]
  have hkept : SupKept (recordEnd x (.failed reason lba) (releaseJobSlot x s)).sup
      (endedJob c x (.failed reason lba) s).sup := by
    rw [endedJob]
    generalize recordEnd x (.failed reason lba) (releaseJobSlot x s) = u
    simp
  exact hkept.grows 4 hset

/-- The class of a job that has ended, its pacing done (R124, R125). -/
theorem endedJob_job (hheld : s.held .mover = false) (hcause : x.abort ≠ some .held) :
    JobEnded x.cls s (endedJob c x e s) := by
  have harbiter := endedJob_arbiter (c := c) (e := e) hheld hcause
  refine ⟨by rw [harbiter], by rw [harbiter], fun hack => ?_, by rw [harbiter], by rw [harbiter], ?_⟩
  · have hwait := takeJobEnd_ackWait (k := x.cls) (cause := x.abort) (endedJob_held (c := c) (x := x) (e := e) hheld)
      hcause (by simpa using hack)
    rw [endedJob, judgeStall_flags, hwait]
    rfl
  · have hscanner : (takeJobEnd x.cls x.abort (setCtx c none (recordEnd x e (releaseJobSlot x s)))).scanner = s.scanner := by
      simp
    rw [endedJob, judgeStall_seen, hscanner]

/-- The end of an event leaves an ended job as it is: a stall looked at twice is looked at once (R61). -/
theorem jobEnded_settle {k : JobClass} {t : State} (h : JobEnded k s t) (b : State) :
    JobEnded k s (settle b t) := by
  obtain ⟨hservice, hlowest, hack, hmask, hqueues, hscanner⟩ := h
  have harbiter := settle_arbiter b t
  refine ⟨by rw [harbiter, hservice], by rw [harbiter, hlowest], fun hp => settle_flag_grows (hack hp),
    by rw [harbiter, hmask], by rw [harbiter, hqueues], ?_⟩
  rw [settle_scanner, hscanner, stallSeen_twice]
  exact (stallSeen_congr (by rw [harbiter]) (settle_map b t) (settle_params b t)).symm

end

/-- An ended job as seen from a state that differs from the one it ended in by the class's service at most. -/
theorem jobEnded_congr {k : JobClass} {s v t : State} (h : JobEnded k v t)
    (hservice : ∀ a, v.arbiter.service.set k a = s.arbiter.service.set k a) (hlowest : v.arbiter.lowest = s.arbiter.lowest)
    (hmask : v.arbiter.mask = s.arbiter.mask) (hqueues : v.arbiter.queues = s.arbiter.queues)
    (hparams : v.params = s.params) (hscanner : v.scanner = s.scanner) : JobEnded k s t := by
  unfold JobEnded at h ⊢
  rwa [hservice, hlowest, hmask, hqueues, hparams, hscanner] at h

/-! ### The end of a job, at the end of its event -/

/-- What the end of the job of context `c`, whose slot is `slot`, has left at the end of its event (R132, R141). -/
structure JobOver (c : CtxId) (x : Context) (e : JobEnd) (slot : Nat) (s t : State) : Prop where
  ctx : t.ctx c = none
  other : ∀ c', s.ctx c' = none → t.ctx c' = none
  job : JobEnded x.cls s t
  map : t.map = (modifySlot slot (if x.action = .fill then SlotRec.afterFill else SlotRec.afterFlush) s).map
  failure : t.mover.failure = (recordEnd x e s).mover.failure
  failed : ∀ reason lba, e = .failed reason lba → t.sup.flags.getLsbD 4 = true
  grows : ∀ n, s.sup.flags.getLsbD n = true → t.sup.flags.getLsbD n = true
  flash : t.flash = s.flash
  list : t.disk.list = s.disk.list
  params : t.params = s.params

section
variable {c : CtxId} {x : Context} {e : JobEnd} {s : State}

theorem setCtx_failure (c : CtxId) (v : Option Context) (s : State) : (setCtx c v s).mover.failure = s.mover.failure := by
  cases c <;> rfl

theorem recordEnd_ctx (x : Context) (e : JobEnd) (s : State) (c : CtxId) : (recordEnd x e s).ctx c = s.ctx c := by
  cases e <;> cases c <;> rfl

theorem endedJob_ctx (c' : CtxId) (h : c' = c ∨ s.ctx c' = none) : (endedJob c x e s).ctx c' = none := by
  have hctx : (endedJob c x e s).ctx c' = (setCtx c none (recordEnd x e s)).ctx c' := by
    have hmover := endedJob_mover c x e s
    cases c'
    · exact congrArg Mover.ctx0 hmover
    · exact congrArg Mover.ctx1 hmover
  rw [hctx]
  rcases h with rfl | h
  · exact setCtx_ctx ..
  · have hnone := (recordEnd_ctx x e s c').trans h
    cases c <;> cases c'
    · rfl
    · exact hnone
    · exact hnone
    · rfl

/-- The end of the ACTIVE job, with none SUSPENDED behind it, to the end of its event (R124, R132). -/
theorem endJob_over {slot : Nat} {j : Job} {c' : CtxId} (hx : s.ctx c = some x) (hheld : s.held .mover = false)
    (hcause : x.abort ≠ some .held) (hslot : x.slot = some slot)
    (hactive : s.arbiter.service.get x.cls = .job .active j c')
    (hlast : ∀ y j c, s.arbiter.service.get y ≠ .job .suspended j c) (n : Nat) (b : State) :
    JobOver c x e slot s (settle b (runMover n (endJob c e s))) := by
  rw [endJob_active hheld hx hcause hactive hlast, runMover_none]
  have hflash : (endedJob c x e s).flash = s.flash := by simp [endedJob]
  have hdisk : (endedJob c x e s).disk = s.disk := by simp [endedJob]
  have hparams : (endedJob c x e s).params = s.params := by simp [endedJob]
  refine ⟨settle_ctx_none (endedJob_ctx c (.inl rfl)), fun c' hc' => settle_ctx_none (endedJob_ctx c' (.inr hc')),
    jobEnded_settle (endedJob_job hheld hcause) b, (settle_map ..).trans (endedJob_map hslot), ?_, ?_,
    fun n hn => settle_flag_grows (endedJob_grows hn), (settle_flash ..).trans hflash, ?_, (settle_params ..).trans hparams⟩
  · rw [settle_failure, endedJob_mover, setCtx_failure]
  · rintro reason lba rfl
    exact settle_flag_grows endedJob_failed
  · rw [(settle_lists _ _).1, hdisk]

end

/-! ### The next piece of a job, at the end of its event -/

/-- A job of a context goes on with a piece that joins its port's list (R131). -/
theorem advance_joins {c : CtxId} {x z : Context} {s : State} {q : PieceSpec}
    (hwork : nextWork c x (setCtx c (some x) s) = .issue q z) (hfree : freeRecords s ≠ 0)
    (hopen : forcedAtIssue q.port s = false) (n : Nat) :
    runMover n (advance c (setCtx c (some x) s)) =
      setPort q.port (joined (s.port q.port)
          ⟨nextId s, .context c, q.op, q.target, q.count, q.buffer, false, .waiting, none⟩
          (maySend q.port s) (pieceLimit s q.port))
        { setCtx c (some { z with piece := some (nextId s), poolWait := false }) s with choice := s.choice + 1 } := by
  have hsame : freeRecords (setCtx c (some x) s) = freeRecords s ∧ nextId (setCtx c (some x) s) = nextId s ∧
      forcedAtIssue q.port (setCtx c (some x) s) = forcedAtIssue q.port s ∧
      (setCtx c (some x) s).port q.port = s.port q.port ∧ maySend q.port (setCtx c (some x) s) = maySend q.port s ∧
      pieceLimit (setCtx c (some x) s) q.port = pieceLimit s q.port := by
    cases c <;> exact ⟨rfl, rfl, rfl, rfl, rfl, rfl⟩
  obtain ⟨hrecords, hid, hforced, hport, hsends, hlimit⟩ := hsame
  rw [advance_issues (by simp) hwork, issuePiece_joins (by rwa [hrecords]) (by rwa [hforced]), runMover_none, hid, hport,
    hsends, hlimit, setCtx_setCtx]
  cases c <;> rfl

theorem putSlot_setCtx (i : Nat) (r : SlotRec) (c : CtxId) (v : Option Context) (s : State) :
    putSlot i r (setCtx c v s) = setCtx c v (putSlot i r s) := by
  have hmap : (setCtx c v s).map = s.map := by simp
  cases h : s.map.slots[i]? with
  | none => rw [putSlot_absent h, putSlot_absent (by rw [hmap]; exact h)]
  | some old =>
    have hreclaimer : (setCtx c v s).reclaimer = s.reclaimer := by simp
    rw [putSlot_present r h, putSlot_present r (by rw [hmap]; exact h), hmap, hreclaimer]
    unfold releaseHand
    dsimp only
    by_cases hwakes : wakesHand s.reclaimer.condition s.reclaimer.hand i old r = true
    · have hwaits := wakesHand_waits hwakes
      rw [if_pos hwakes, if_pos hwakes, if_pos hwaits, if_pos hwaits]
      cases c <;> rfl
    · rw [if_neg hwakes, if_neg hwakes]
      cases c <;> rfl

theorem modifySlot_setCtx (i : Nat) (f : SlotRec → SlotRec) (c : CtxId) (v : Option Context) (s : State) :
    modifySlot i f (setCtx c v s) = setCtx c v (modifySlot i f s) := by
  have hmap : (setCtx c v s).map = s.map := by simp
  rw [modifySlot, modifySlot, putSlot_setCtx, State.slot, State.slot, hmap]

/-- The slot's record after it has been changed. -/
theorem modifySlot_slot {i : Nat} (f : SlotRec → SlotRec) {s : State} (h : i < s.map.slots.length) :
    (modifySlot i f s).slot i = f (s.slot i) := by
  have hold := List.getElem?_eq_getElem h
  rw [modifySlot, State.slot, putSlot_map_eq hold, ResidencyMap.put, List.getElem?_set_self h]
  rfl

end Sys2Proof.Machine
end

section
/-! O46. The events of a Mover context whose job is ACTIVE (R131, R132, R134, R135, R138 to R141, R144). -/

namespace Sys2Proof.Machine

open Sys2Proof.Safety

/-! ### The next work of each phase -/

section
variable {c : CtxId} {x : Context} {s : State} {slot : Nat}

theorem setCtx_self (h : s.ctx c = some x) : setCtx c (some x) s = s := by
  cases c <;> exact congrArg (fun v : Option Context => setCtx _ v s) h.symm

theorem nextWork_diskRead {chunk lo hi : Nat} (hphase : x.phase = .diskRead) (hslot : x.slot = some slot)
    (hchunk : x.chunk = some chunk) (hlo : lowest (~~~(s.slot slot).valid) = some lo)
    (hhi : highest (~~~(s.slot slot).valid) = some hi) : nextWork c x s =
      .issue ⟨.disk, .read, .disk (chunk * 256 + lo), hi + 1 - lo, .staging c lo⟩
        { x with readSpan := some (lo, hi), cursor := lo } := by
  have hwork : nextWork c x s = diskReadWork c x chunk (s.slot slot).valid := by
    unfold nextWork
    rw [hphase, hslot, hchunk] <;> rfl
  rw [hwork]
  unfold diskReadWork
  rw [hlo, hhi]

theorem nextWork_flashWrite {lo hi : Nat} (hphase : x.phase = .flashWrite) (hslot : x.slot = some slot)
    (hspan : x.readSpan = some (lo, hi)) : nextWork c x s =
      (runs (rangeSet x.cursor (hi + 1 - x.cursor) &&& ~~~(s.slot slot).valid)).head?.elim .finish (fun g =>
        .issue ⟨.flash, .write, .flash slot g.first, g.count, .staging c g.first⟩
          { x with cursor := g.first + g.count }) := by
  have hwork : nextWork c x s = flashWriteWork c x slot (s.slot slot).valid := by
    unfold nextWork
    rw [hphase, hslot] <;> rfl
  have hmissing : missingSet x (s.slot slot).valid = rangeSet x.cursor (hi + 1 - x.cursor) &&& ~~~(s.slot slot).valid := by
    unfold missingSet
    rw [hspan]
  rw [hwork]
  unfold flashWriteWork
  rw [hmissing]
  cases (runs (rangeSet x.cursor (hi + 1 - x.cursor) &&& ~~~(s.slot slot).valid)).head? <;> rfl

theorem nextWork_flashRead {g : Run} (hphase : x.phase = .flashRead) (hslot : x.slot = some slot)
    (hrun : x.snapshot[x.runIndex]? = some g) : nextWork c x s =
      .issue ⟨.flash, .read, .flash slot g.first, g.count, .staging c g.first⟩ x := by
  have hwork : nextWork c x s = flushWork c x (x.chunk.getD 0) slot false := by
    unfold nextWork
    rw [hphase, hslot] <;> rfl
  rw [hwork]
  unfold flushWork
  rw [hrun]
  rfl

theorem nextWork_diskWrite {g : Run} {chunk : Nat} (hphase : x.phase = .diskWrite) (hchunk : x.chunk = some chunk)
    (hrun : x.snapshot[x.runIndex]? = some g) : nextWork c x s =
      .issue ⟨.disk, .write, .disk (chunk * 256 + g.first), g.count, .staging c g.first⟩ x := by
  have hwork : nextWork c x s = flushWork c x chunk (x.slot.getD 0) true := by
    unfold nextWork
    rw [hphase, hchunk] <;> rfl
  rw [hwork]
  unfold flushWork
  rw [hrun]
  rfl

theorem nextWork_flushed (hphase : x.phase = .flashRead) (haction : x.action = .flush)
    (hrun : x.snapshot[x.runIndex]? = none) : nextWork c x s = .finish := by
  have hwork : nextWork c x s = flushWork c x (x.chunk.getD 0) (x.slot.getD 0) false := by
    unfold nextWork
    rw [hphase]
  rw [hwork]
  unfold flushWork
  rw [hrun]
  exact if_neg (by simp [haction])

theorem nextWork_evictCheck (hphase : x.phase = .evictCheck) : nextWork c x s = .check := by
  unfold nextWork
  rw [hphase]

/-! ### The evict check (R140) -/

theorem evictCheck_clean (hslot : x.slot = some slot) (hdirty : (s.slot slot).dirty = 0#256)
    (hpinned : (s.slot slot).pinned = false) (hinflight : (s.slot slot).inflight = 0) :
    evictCheck c x s = endJob c .done (putSlot slot .free s) := by
  rw [evictCheck, hslot]
  exact if_pos ⟨hdirty, hpinned, hinflight⟩

theorem evictCheck_busy (hslot : x.slot = some slot)
    (hbusy : (s.slot slot).dirty ≠ 0#256 ∨ (s.slot slot).pinned = true ∨ (s.slot slot).inflight ≠ 0) :
    evictCheck c x s = endJob c (.failed .busy none) s := by
  rw [evictCheck, hslot]
  refine if_neg ?_
  rintro ⟨hdirty, hpinned, hinflight⟩
  rcases hbusy with h | h | h
  · exact h hdirty
  · exact absurd (hpinned.symm.trans h) (by decide)
  · exact h hinflight

end

/-! ### A job that ends, seen from the event's start -/

/-- What the pieces and slots of an event leave of what a job's end reads. -/
structure Beside (s v : State) : Prop where
  arbiter : v.arbiter = s.arbiter
  params : v.params = s.params
  scanner : v.scanner = s.scanner
  holds : v.sup.holds = s.sup.holds
  failure : v.mover.failure = s.mover.failure

section
variable {s v : State}

theorem Beside.setPort (h : Beside s v) (p : Port) (u : PortUnit) : Beside s (setPort p u v) := by
  obtain ⟨harbiter, hparams, hscanner, hholds, hfailure⟩ := h
  cases p <;> exact ⟨harbiter, hparams, hscanner, hholds, hfailure⟩

theorem Beside.setCtx (h : Beside s v) (c : CtxId) (x : Option Context) : Beside s (setCtx c x v) := by
  obtain ⟨harbiter, hparams, hscanner, hholds, hfailure⟩ := h
  cases c <;> exact ⟨harbiter, hparams, hscanner, hholds, hfailure⟩

theorem Beside.putSlot (h : Beside s v) (i : Nat) (r : SlotRec) : Beside s (putSlot i r v) := by
  obtain ⟨harbiter, hparams, hscanner, hholds, hfailure⟩ := h
  exact ⟨by simpa, by simpa, by simpa, by simpa, by simpa⟩

theorem Beside.modifySlot (h : Beside s v) (i : Nat) (f : SlotRec → SlotRec) : Beside s (modifySlot i f v) :=
  h.putSlot i _

theorem Beside.setFlag (h : Beside s v) (f : EventFlag) : Beside s (setFlag f v) := by
  obtain ⟨harbiter, hparams, hscanner, hholds, hfailure⟩ := h
  exact ⟨harbiter, hparams, hscanner, hholds, hfailure⟩

/-- The job of a context ends in an event whose earlier steps are beside what its end reads. -/
theorem Beside.ends {c : CtxId} {x z : Context} {e : JobEnd} {slot : Nat} {j : Job} {c' : CtxId} (h : Beside s v)
    (hcls : z.cls = x.cls) (hslot : z.slot = some slot) (hcause : z.abort ≠ some .held)
    (hheld : s.held .mover = false) (hactive : s.arbiter.service.get x.cls = .job .active j c')
    (hlast : ∀ y j c, s.arbiter.service.get y ≠ .job .suspended j c) (n : Nat) :
    JobOver c z e slot (Machine.setCtx c (some z) v) (settle s (runMover n (endJob c e (Machine.setCtx c (some z) v)))) ∧
    JobEnded x.cls s (settle s (runMover n (endJob c e (Machine.setCtx c (some z) v)))) := by
  obtain ⟨harbiter, hparams, hscanner, hholds, _⟩ := h.setCtx c (some z)
  have hover := endJob_over (e := e) (s := Machine.setCtx c (some z) v) (setCtx_ctx ..)
    (by rw [State.held, hholds]; exact hheld) hcause hslot (by rw [harbiter, hcls]; exact hactive)
    (by rw [harbiter]; exact hlast) n s
  refine ⟨hover, ?_⟩
  rw [← hcls]
  exact jobEnded_congr hover.job (fun a => by rw [harbiter]) (by rw [harbiter]) (by rw [harbiter]) (by rw [harbiter])
    hparams hscanner

end

/-! ### A piece of an ACTIVE job completes OK -/

/-- The context whose piece has completed, with its watchdog loaded (R131, R143, R144). -/
def rewatched (code : Nat) (x : Context) : Context :=
  { x with piece := none, watchdog := if code = 0 then x.watchdog else some (code * 10) }

section
variable {c : CtxId} {x : Context} {q : Piece} {s : State} {j : Job} {first slot : Nat}

theorem loadWatchdog_rewatched (c : CtxId) (x : Context) (s : State) :
    loadWatchdog c (setCtx c (some { x with piece := none }) s) = setCtx c (some (rewatched s.params.watchdogCode x)) s := by
  have hparams : (setCtx c (some { x with piece := none }) s).params = s.params := by simp
  rw [loadWatchdog, hparams, rewatched]
  by_cases hcode : s.params.watchdogCode = 0
  · rw [if_pos hcode, if_pos hcode]
  · rw [if_neg hcode, if_neg hcode, modifyCtx_some (setCtx_ctx ..), setCtx_setCtx]

theorem passPiece_advances (hx : s.ctx c = some x) (habort : x.abort = none)
    (hactive : s.arbiter.service.get x.cls = .job .active j c) : passPiece c q s =
      advance c (leaveFlushPhase (x.passed q) (modifyCtx c (fun y => y.passed q)
        (applyPiece x q (setCtx c (some (rewatched s.params.watchdogCode x)) s)))) := by
  unfold passPiece
  rw [hx]
  dsimp only
  rw [loadWatchdog_rewatched, habort]
  dsimp only
  rw [serviceStateOf_job hactive, if_neg (by simp)]

theorem leaveFlushPhase_other (h : x.phase ≠ .evictCheck) (s : State) : leaveFlushPhase x s = s := by
  unfold leaveFlushPhase
  split
  next hphase _ => exact absurd hphase h
  next => rfl

theorem passed_diskRead (hphase : x.phase = .diskRead) (hrun : q.run = ⟨first, q.count⟩) : x.passed q =
    { x with phase := .flashWrite, staged := x.staged ||| rangeSet first q.count, usingDisk := false } := by
  unfold Context.passed
  rw [hphase, hrun]

theorem passed_flashRead (hphase : x.phase = .flashRead) (hrun : q.run = ⟨first, q.count⟩) : x.passed q =
    { x with phase := .diskWrite, staged := x.staged ||| rangeSet first q.count } := by
  unfold Context.passed
  rw [hphase, hrun]

theorem passed_flashWrite (hphase : x.phase = .flashWrite) : x.passed q = x := by
  unfold Context.passed
  rw [hphase]

theorem passed_diskWrite (hphase : x.phase = .diskWrite) : x.passed q =
    if x.runIndex + 1 < x.snapshot.length then { x with phase := .flashRead, runIndex := x.runIndex + 1 }
    else { x with
      phase := if x.action = .evict then .evictCheck else .flashRead
      runIndex := x.runIndex + 1, usingDisk := false } := by
  unfold Context.passed
  rw [hphase]

theorem applyPiece_read (h : x.phase = .diskRead ∨ x.phase = .flashRead) (s : State) : applyPiece x q s = s := by
  unfold applyPiece
  rcases h with h | h <;> rw [h]

theorem applyPiece_flashWrite (hphase : x.phase = .flashWrite) (hslot : x.slot = some slot)
    (hrun : q.run = ⟨first, q.count⟩) (s : State) :
    applyPiece x q s = modifySlot slot (fun w => { w with valid := w.valid ||| rangeSet first q.count }) s := by
  unfold applyPiece
  rw [hphase, hslot, hrun]

theorem applyPiece_diskWrite (hphase : x.phase = .diskWrite) (hslot : x.slot = some slot)
    (hrun : q.run = ⟨first, q.count⟩) (s : State) : applyPiece x q s =
      modifySlot slot (fun w => { w with dirty := w.dirty &&& ~~~(rangeSet first q.count &&& ~~~w.redirty) }) s := by
  unfold applyPiece
  rw [hphase, hslot, hrun]

end

theorem modifySlot_length (i : Nat) (f : SlotRec → SlotRec) (s : State) :
    (modifySlot i f s).map.slots.length = s.map.slots.length := by
  rw [modifySlot, putSlot_map_elim]
  cases s.map.slots[i]? with
  | none => rfl
  | some old => exact List.length_set

/-! ### The slot of an EVICT after its flush phase (R140) -/

/-- The record of an EVICT's slot that leaves FLUSHING for the evict check. -/
def leftFlushing (r : SlotRec) : SlotRec :=
  if r.state = .flushing then { r with state := .resident, redirty := 0#256 } else r

section
variable {i : Nat} {s : State}

/-- A write that follows the leaving of FLUSHING stands alone. -/
theorem putSlot_leftFlushing (r : SlotRec) (hlt : i < s.map.slots.length) (hstate : (s.slot i).state = .flushing) :
    (putSlot i r (modifySlot i leftFlushing s)).map = (putSlot i r s).map := by
  have hold : s.map.slots[i]? = some (s.slot i) := by
    rw [State.slot, List.getElem?_eq_getElem hlt, Option.getD_some]
  have hleft : leftFlushing (s.slot i) = { s.slot i with state := .resident, redirty := 0#256 } := if_pos hstate
  have hnow : (modifySlot i leftFlushing s).map = s.map.put i (s.slot i) (leftFlushing (s.slot i)) := putSlot_map_eq hold
  have hnew : (modifySlot i leftFlushing s).map.slots[i]? = some (leftFlushing (s.slot i)) := by
    rw [hnow]
    exact List.getElem?_set_self hlt
  rw [putSlot_map_eq hnew, putSlot_map_eq hold, hnow, hleft]
  refine put_put r rfl ?_ ?_ ?_
  · rw [SlotRec.isFree, SlotRec.isFree, hstate]
    rfl
  · rw [SlotRec.isDirty, SlotRec.isDirty, hstate]
    rfl
  · rw [SlotRec.countsPinned, SlotRec.countsPinned, hstate]
    rfl

theorem afterFlush_leftFlushing (r : SlotRec) : (leftFlushing r).afterFlush = r.afterFlush := by
  unfold leftFlushing
  split
  next h => simp [SlotRec.afterFlush, h]
  next => rfl

theorem leftFlushing_keeps (r : SlotRec) : (leftFlushing r).dirty = r.dirty ∧ (leftFlushing r).pinned = r.pinned ∧
    (leftFlushing r).inflight = r.inflight := by
  unfold leftFlushing
  split <;> exact ⟨rfl, rfl, rfl⟩

theorem leaveFlushPhase_evict {x : Context} {slot : Nat} (hphase : x.phase = .evictCheck) (hslot : x.slot = some slot)
    (s : State) : leaveFlushPhase x s = modifySlot slot leftFlushing s := by
  unfold leaveFlushPhase
  rw [hphase, hslot] <;> rfl

theorem afterFlush_leftFlushing_map (hlt : i < s.map.slots.length) (hstate : (s.slot i).state = .flushing) :
    (modifySlot i SlotRec.afterFlush (modifySlot i leftFlushing s)).map = (modifySlot i SlotRec.afterFlush s).map := by
  rw [modifySlot, modifySlot_slot _ hlt, afterFlush_leftFlushing]
  exact putSlot_leftFlushing _ hlt hstate

/-- The end of a flush changes a slot that it has freed no further (R9). -/
theorem afterFlush_freed (i : Nat) (s : State) :
    modifySlot i SlotRec.afterFlush (putSlot i .free s) = putSlot i .free s := by
  cases h : s.map.slots[i]? with
  | none => rw [putSlot_absent h, modifySlot_absent _ h]
  | some old =>
    have hnew : (putSlot i .free s).map.slots[i]? = some SlotRec.free := by
      rw [putSlot_map_eq h]
      exact List.getElem?_set_self (List.getElem?_eq_some_iff.mp h).1
    rw [modifySlot, State.slot_of_some hnew]
    exact putSlot_self hnew

end

end Sys2Proof.Machine
end

section
/-! O46, continued: the statement's clauses. -/

namespace Sys2Proof.Machine

open Sys2Proof.Safety

/-! ### What an issue reads -/

/-- The event's steps leave what decides whether and how a piece joins a port's list. -/
structure Sending (s v : State) : Prop where
  flash : v.flash.status = s.flash.status
  disk : v.disk.status = s.disk.status
  running : v.spindle.state = .running ↔ s.spindle.state = .running
  retry : v.spindle.retryTimer = s.spindle.retryTimer
  params : v.params = s.params
  choice : v.choice = s.choice

section
variable {s v : State}

theorem Sending.maySend (h : Sending s v) (p : Port) : maySend p v = maySend p s := by
  have hrunning : (v.spindle.state == .running) = (s.spindle.state == .running) :=
    Bool.eq_iff_iff.mpr (by simpa using h.running)
  cases p <;> simp only [Machine.maySend, h.flash, h.disk, hrunning]

theorem Sending.pieceLimit (h : Sending s v) (p : Port) : pieceLimit v p = pieceLimit s p := by
  cases p <;> simp only [Machine.pieceLimit, h.params]

theorem Sending.forcedAtIssue (h : Sending s v) (p : Port) : forcedAtIssue p v = forcedAtIssue p s := by
  cases p <;> simp only [Machine.forcedAtIssue, State.port, h.flash, h.disk, h.retry]

theorem Sending.modifySlot (h : Sending s v) (i : Nat) (f : SlotRec → SlotRec) : Sending s (modifySlot i f v) := by
  obtain ⟨hflash, hdisk, hrunning, hretry, hparams, hchoice⟩ := h
  exact ⟨by simpa, by simpa, by simpa, by simpa, by simpa, by simpa⟩

theorem sending_setPort (p : Port) {w : PortUnit} (hstatus : w.status = (s.port p).status) : Sending s (setPort p w s) := by
  cases p
  · exact ⟨hstatus, rfl, Iff.rfl, rfl, rfl, rfl⟩
  · exact ⟨rfl, hstatus, Iff.rfl, rfl, rfl, rfl⟩

/-- The job of a context issues its next piece, from a state whose pool is that of `u` (R131). -/
theorem Sending.issues {c : CtxId} {z z' : Context} {u : State} {port : Port} {op : PieceOp} {target : PieceTarget}
    {g : Run} (h : Sending s v) (hopen : Machine.forcedAtIssue port s = false) (hfree : freeRecords u ≠ 0)
    (hpool : freeRecords v = freeRecords u ∧ freeIds v = freeIds u)
    (hwork : nextWork c z (setCtx c (some z) v) = .issue ⟨port, op, target, g.count, .staging c g.first⟩ z') (n : Nat) :
    ∃ id ∈ freeIds u, runMover n (advance c (setCtx c (some z) v)) = setPort port
      (joined (v.port port) ⟨id, .context c, op, target, g.count, .staging c g.first, false, .waiting, none⟩
        (Machine.maySend port s) (Machine.pieceLimit s port))
      { setCtx c (some { z' with piece := some id, poolWait := false }) v with choice := s.choice + 1 } := by
  obtain ⟨hrecords, hids⟩ := hpool
  have hroom : freeRecords v ≠ 0 := by rwa [hrecords]
  refine ⟨nextId v, hids ▸ nextId_mem hroom, ?_⟩
  rw [advance_joins hwork hroom ((h.forcedAtIssue _).trans hopen), h.maySend, h.pieceLimit, h.choice]

end

/-! ### A piece of an ACTIVE job fails -/

section
variable {c : CtxId} {x : Context} {q : Piece} {s : State}

theorem judgeMediaLoss_setCtx (st : PieceStatus) (v : Option Context) (s : State) :
    judgeMediaLoss x q st (setCtx c v s) = setCtx c v (judgeMediaLoss x q st s) := by
  have hslot (i : Nat) : (setCtx c v s).slot i = s.slot i := by cases c <;> rfl
  unfold judgeMediaLoss
  split
  · rw [hslot]
    split
    · rfl
    · cases c <;> rfl
  · rfl

theorem judgeMediaLoss_beside {v : State} (h : Beside s v) (st : PieceStatus) :
    Beside s (judgeMediaLoss x q st v) ∧ (judgeMediaLoss x q st v).map = v.map := by
  unfold judgeMediaLoss
  split
  · split
    · exact ⟨h, rfl⟩
    · exact ⟨h.setFlag _, rfl⟩
  · exact ⟨h, rfl⟩

/-- A flush's flash READ that fails over dirty offsets loses data (R139). -/
theorem judgeMediaLoss_sets {slot first e : Nat} (hphase : x.phase = .flashRead) (hslot : x.slot = some slot)
    (hrun : q.run = ⟨first, q.count⟩)
    (hdirty : rangeSet (first + e) (q.count - e) &&& (s.slot slot).dirty ≠ 0#256) :
    (judgeMediaLoss x q (.mediaError e) s).sup.flags.getLsbD 8 = true := by
  unfold judgeMediaLoss
  rw [hphase, hslot, hrun]
  dsimp only
  rw [if_neg (by exact hdirty), setFlag_flags]
  simp [EventFlag.bit]

theorem failAtPiece_ends (p : Port) (st : PieceStatus) (hx : s.ctx c = some x) : failAtPiece c p q st s =
    endJob c (.failed (failReason p x.abort st) (failLba x q (failReason p x.abort st) st))
      (setCtx c (some { x with piece := none }) (judgeMediaLoss x q st s)) := by
  unfold failAtPiece
  rw [hx]
  dsimp only
  rw [judgeMediaLoss_setCtx]

/-- The reason and the failing LBA of the failure record, by the status of the completion (R141, R144). -/
theorem failedPiece {p : Port} {status offset : Byte} {chunk first : Nat} (hlow : 1 ≤ status.toNat)
    (hhigh : status.toNat ≤ 3) (hheld : x.abort ≠ some .held) (hchunk : x.chunk = some chunk)
    (hrun : q.run = ⟨first, q.count⟩) {reason : FailReason}
    (hreason : reason = if x.abort = some .timeout then .timeout else if status.toNat = 1 then .mediaError
      else if status.toNat = 2 then .aborted else if p = .flash then .flashUnavailable else .diskUnavailable) :
    ∃ st, completionStatus q status offset = some st ∧ st ≠ .ok ∧ (st = .aborted → status.toNat = 2) ∧
      (status.toNat = 1 → st = .mediaError (min offset.toNat (q.count - 1))) ∧ failReason p x.abort st = reason ∧
      failLba x q reason st =
        if reason = .mediaError then some (chunk * 256 + first + min offset.toNat (q.count - 1)) else none := by
  have hcause : x.abort = some .timeout ∨ x.abort = none := by
    cases habort : x.abort with
    | none => exact Or.inr rfl
    | some cause =>
      cases cause with
      | timeout => exact Or.inl rfl
      | held => exact absurd habort hheld
  have hcases : status.toNat = 1 ∨ status.toNat = 2 ∨ status.toNat = 3 := by omega
  rcases hcases with h | h | h
  · refine ⟨_, completionStatus_mediaError offset h, nofun, nofun, fun _ => rfl, ?_⟩
    rcases hcause with hc | hc
    · rw [hreason, if_pos hc, hc]
      exact ⟨rfl, rfl⟩
    · rw [hreason, if_neg (by simp [hc]), if_pos h, hc, failLba, hchunk, hrun]
      exact ⟨rfl, rfl⟩
  · refine ⟨_, completionStatus_aborted offset h, nofun, fun _ => h, fun h1 => absurd h1 (by omega), ?_⟩
    rcases hcause with hc | hc
    · rw [hreason, if_pos hc, hc]
      exact ⟨rfl, rfl⟩
    · rw [hreason, if_neg (by simp [hc]), if_neg (by omega), if_pos h, hc]
      cases p <;> exact ⟨rfl, rfl⟩
  · refine ⟨_, completionStatus_notReady offset h, nofun, nofun, fun h1 => absurd h1 (by omega), ?_⟩
    rcases hcause with hc | hc
    · rw [hreason, if_pos hc, hc]
      exact ⟨rfl, rfl⟩
    · rw [hreason, if_neg (by simp [hc]), if_neg (by omega), if_neg (by omega), hc]
      cases p <;> exact ⟨rfl, rfl⟩

end

/-! ### The watchdog (R144) -/

section
variable {c : CtxId} {x : Context} {s : State}

theorem watchdogExpiry_aborts (hx : s.ctx c = some x) (hruns : x.watchdog ≠ none) : watchdogExpiry c s =
    some (abortJob .timeout c (setCtx c (some { x with watchdog := none }) s)) := by
  unfold watchdogExpiry
  rw [hx]
  exact if_pos (Option.isSome_iff_ne_none.mpr hruns)

/-- A job with no piece outstanding ends at its abort (R144). -/
theorem abortJob_unpieced (hx : s.ctx c = some x) (habort : x.abort = none) (hpiece : x.piece = none) :
    abortJob .timeout c s = runMover moverBound (endJob c (.failed .timeout none)
      (setCtx c (some { x with abort := some .timeout }) s)) := by
  unfold abortJob
  rw [hx]
  dsimp only
  rw [if_neg (by simp [habort])]
  split
  next heq => rw [hpiece] at heq; contradiction
  next => rfl

end

/-! ### Expiries and retries that do not happen (log entry 1) -/

section
variable {c : CtxId} {s : State}

theorem mayRetry_false (h : (∀ x, s.ctx c = some x → x.poolWait = false) ∨ freeRecords s = 0) : mayRetry c s = false := by
  unfold mayRetry
  cases hx : s.ctx c with
  | none => rfl
  | some x =>
    rcases h with h | h
    · simp [h x hx]
    · simp [h]

theorem mayRetry_true {x : Context} {j : Job} {c' : CtxId} (hx : s.ctx c = some x) (hwait : x.poolWait = true)
    (hactive : s.arbiter.service.get x.cls = .job .active j c') (hfree : freeRecords s ≠ 0) : mayRetry c s = true := by
  rw [mayRetry, hx]
  simp [hwait, serviceStateOf_job hactive, hfree]

theorem watchdogExpiry_none (h : ∀ x, s.ctx c = some x → x.watchdog = none) : watchdogExpiry c s = none := by
  unfold watchdogExpiry
  cases hx : s.ctx c with
  | none => rfl
  | some x => exact if_neg (by simp [h x hx])

theorem exec_moverIssueRetry (c : CtxId) (s : State) : exec (.moverIssueRetry c) s =
    .next (event s (if mayRetry c s then some (runMover moverBound (advance c s)) else none)) := rfl

theorem exec_watchdogExpiry (c : CtxId) (s : State) : exec (.watchdogExpiry c) s = .next (event s (watchdogExpiry c s)) := rfl

end

/-! ### The completion of a context's piece -/

/-- A piece of the port's list, in SENT or ABORTING, of a context whose job is ACTIVE with none SUSPENDED behind it, at a
READY port and a Mover that is not held. -/
structure MoverPiece (s : State) (p : Port) (q : Piece) (before behind : List Piece) (c : CtxId) (x : Context) (j : Job)
    (slot chunk first : Nat) : Prop where
  ready : (s.port p).status = .ready
  list : (s.port p).list = before ++ q :: behind
  state : q.state ≠ .waiting
  other : ∀ y ∈ before ++ behind, y.id ≠ q.id
  owner : q.owner = .context c
  run : q.run = ⟨first, q.count⟩
  ctx : s.ctx c = some x
  slot : x.slot = some slot
  chunk : x.chunk = some chunk
  active : s.arbiter.service.get x.cls = .job .active j c
  held : s.held .mover = false
  last : ∀ y j' c', s.arbiter.service.get y ≠ .job .suspended j' c'

theorem pieceGone_beside (p : Port) (q : Piece) (before behind : List Piece) (s : State) :
    Beside s (pieceGone p q before behind s s) ∧ Sending s (pieceGone p q before behind s s) ∧
    (pieceGone p q before behind s s).map = s.map ∧ ∀ c, (pieceGone p q before behind s s).ctx c = s.ctx c :=
  ⟨Beside.setPort ⟨rfl, rfl, rfl, rfl, rfl⟩ p _, sending_setPort p rfl, by cases p <;> rfl, fun c => by cases p <;> rfl⟩

namespace MoverPiece

variable {s : State} {p : Port} {q : Piece} {before behind : List Piece} {c : CtxId} {x : Context} {j : Job}
  {slot chunk first : Nat}

/-- The context takes the completion after the piece has left its list (R90). -/
theorem taken (h : MoverPiece s p q before behind c x j slot chunk first) {id status offset : Byte}
    (hid : q.id = id.toNat) {st : PieceStatus} (hst : completionStatus q status offset = some st)
    (hgoes : ¬ (p = .disk ∧ q.state = .sent ∧ s.spindle.state ≠ .running ∧ st = .aborted)) :
    exec (.pieceCompletion p id status offset) s =
      .next (settle s (runMover moverBound (moverTake c p q st (pieceGone p q before behind s s)))) := by
  have hdeliver (v : State) : deliver p behind q st v = runMover moverBound (moverTake c p q st v) := by
    unfold deliver
    rw [h.owner]
  have hexec : exec (.pieceCompletion p id status offset) s = .next (event s (pieceCompletion p id status offset s)) := rfl
  rw [hexec, pieceCompletion_taken h.ready h.list hid h.state (by rw [← hid]; exact h.other) hst,
    takeCompletion_delivers h.list h.other (.inl hgoes), hdeliver]
  rfl

/-- A fill's disk read, or a flush's flash read, has completed OK: no slot changes yet (R134, R138). -/
theorem read (h : MoverPiece s p q before behind c x j slot chunk first) (habort : x.abort = none)
    (hphase : x.phase = .diskRead ∨ x.phase = .flashRead) (hnext : (x.passed q).phase ≠ .evictCheck) :
    passPiece c q (pieceGone p q before behind s s) =
      advance c (setCtx c (some ((rewatched s.params.watchdogCode x).passed q)) (pieceGone p q before behind s s)) := by
  obtain ⟨hbeside, _, _, hctx⟩ := pieceGone_beside p q before behind s
  rw [passPiece_advances ((hctx c).trans h.ctx) habort (by rw [hbeside.arbiter]; exact h.active),
    leaveFlushPhase_other hnext, applyPiece_read hphase, modifyCtx_some (setCtx_ctx ..), setCtx_setCtx, hbeside.params]

/-- A write piece has completed OK: the slot's record has changed, and the job goes on from its context (R135, R138,
R140). -/
theorem write (h : MoverPiece s p q before behind c x j slot chunk first) (habort : x.abort = none)
    {f : SlotRec → SlotRec} (happly : ∀ v, applyPiece x q v = modifySlot slot f v) :
    passPiece c q (pieceGone p q before behind s s) =
      advance c (setCtx c (some ((rewatched s.params.watchdogCode x).passed q))
        (leaveFlushPhase (x.passed q) (modifySlot slot f (pieceGone p q before behind s s)))) := by
  obtain ⟨hbeside, _, _, hctx⟩ := pieceGone_beside p q before behind s
  have hleave (v : Option Context) (w : State) : leaveFlushPhase (x.passed q) (setCtx c v w) =
      setCtx c v (leaveFlushPhase (x.passed q) w) := by
    unfold leaveFlushPhase
    split
    · exact modifySlot_setCtx ..
    · rfl
  rw [passPiece_advances ((hctx c).trans h.ctx) habort (by rw [hbeside.arbiter]; exact h.active), happly,
    modifySlot_setCtx, modifyCtx_some (setCtx_ctx ..), setCtx_setCtx, hleave, hbeside.params]

/-- The job of the piece's context ends. -/
theorem ends (h : MoverPiece s p q before behind c x j slot chunk first) {v : State} {z : Context} (e : JobEnd)
    (hv : Beside s v) (hcls : z.cls = x.cls) (haction : z.action = x.action) (hslot : z.slot = some slot)
    (hcause : z.abort ≠ some .held) {t : State} (ht : t = settle s (runMover moverBound (endJob c e (setCtx c (some z) v)))) :
    t.ctx c = none ∧ JobEnded x.cls s t ∧
    t.map = (modifySlot slot (if x.action = .fill then SlotRec.afterFill else SlotRec.afterFlush) v).map ∧
    t.mover.failure = (recordEnd z e s).mover.failure ∧
    (∀ reason lba, e = .failed reason lba → t.sup.flags.getLsbD 4 = true) ∧
    (∀ n, v.sup.flags.getLsbD n = true → t.sup.flags.getLsbD n = true) := by
  obtain ⟨hover, hjob⟩ := hv.ends (c := c) (e := e) hcls hslot hcause h.held h.active h.last moverBound
  subst ht
  refine ⟨hover.ctx, hjob, ?_, ?_, hover.failed, fun n hn => hover.grows n (by simpa using hn)⟩
  · rw [hover.map, haction]
    exact modifySlot_map_congr _ _ (by simp)
  · rw [hover.failure]
    cases e with
    | failed reason lba => rfl
    | done => exact (setCtx_failure ..).trans hv.failure
    | skipped => exact (setCtx_failure ..).trans hv.failure

end MoverPiece

/-! ### The statement -/

/-- Settles O46. -/
theorem contextEvents : Obligations.ContextEvents := by
  unfold Obligations.ContextEvents
  intro s c
  refine ⟨fun hquiet => ?noRetry, ?retry, fun hquiet => ?noExpiry, ?expiry, ?completion⟩
  case noRetry =>
    rw [exec_moverIssueRetry, mayRetry_false hquiet]
    rfl
  case noExpiry =>
    rw [exec_watchdogExpiry, watchdogExpiry_none hquiet]
    rfl
  case retry =>
    intro x j slot chunk lo hi hx hwait hactive hfree hphase hslot hchunk hstatus hretry hle hlt hlo hhi hbelow habove
    have hself := setCtx_self hx
    have hlowest : lowest (~~~(s.slot slot).valid) = some lo :=
      lowest_eq_some.mpr ⟨by rw [BitVec.getLsbD_not, hlo, decide_eq_true (Nat.lt_of_le_of_lt hle hlt)]; rfl,
        fun m hm => by simp [hbelow m hm]⟩
    have hhighest : highest (~~~(s.slot slot).valid) = some hi :=
      highest_eq_some (by rw [BitVec.getLsbD_not, hhi, decide_eq_true hlt]; rfl) fun m hm => by
        by_cases hin : m < 256
        · simp [habove m hm hin]
        · simp [hin]
    have hjoins := advance_joins (c := c) (x := x) (s := s)
      (nextWork_diskRead hphase hslot hchunk (by rw [hself]; exact hlowest) (by rw [hself]; exact hhighest)) hfree
      (forcedAtIssue_disk hstatus hretry) moverBound
    rw [hself] at hjoins
    refine ⟨nextId s, nextId_mem hfree, ?_⟩
    rw [exec_moverIssueRetry, mayRetry_true hx hwait hactive hfree, if_pos rfl, hjoins]
    rfl
  case expiry =>
    intro x hx hruns habort
    have hexec := exec_watchdogExpiry c s
    rw [watchdogExpiry_aborts hx hruns, event_some] at hexec
    refine ⟨fun j slot hpiece hheld hactive hslot hlast => ?ends, fun id q before behind hpiece hlist hid hsent hother => ?asks⟩
    case ends =>
      rw [abortJob_unpieced (setCtx_ctx ..) (by exact habort) (by exact hpiece), setCtx_setCtx] at hexec
      obtain ⟨hover, hjob⟩ := Beside.ends (z := { x with watchdog := none, abort := some .timeout }) (x := x)
        (e := .failed .timeout none) (⟨rfl, rfl, rfl, rfl, rfl⟩ : Beside s s) rfl hslot nofun hheld hactive hlast moverBound
      refine ⟨_, hexec, hover.ctx, hover.failure.trans ?_, hover.failed _ _ rfl, hjob, ?_, ?_, ?_, ?_⟩
      · rw [← hslot]
        rfl
      · exact hover.map.trans (modifySlot_map_congr _ _ (by simp))
      · exact hover.flash.trans (by simp)
      · exact hover.list.trans (by simp)
      · exact hover.params.trans (by simp)
    case asks =>
      have hflash : (setCtx c (some { x with watchdog := none }) s).flash = s.flash := by simp
      rw [hexec, abortJob_flash_sent .timeout (setCtx_ctx ..) (by exact habort) (by exact hpiece) (by rw [hflash]; exact hlist)
        hid hsent hother, setCtx_setCtx, hflash]
  case completion =>
    intro p id status offset q before behind x j slot chunk first hready hlist hid hstate hother howner hbuffer hx hslot
      hchunk hactive hheld hlast u r run code y issues ends
    have hrun : q.run = ⟨first, q.count⟩ := by
      unfold Piece.run
      rw [hbuffer]
    have hpiece : MoverPiece s p q before behind c x j slot chunk first :=
      ⟨hready, hlist, hstate, by rwa [hid], howner, hrun, hx, hslot, hchunk, hactive, hheld, hlast⟩
    obtain ⟨hbeside, hsending, hmap, hctx⟩ := pieceGone_beside p q before behind s
    have huslot : u.slot slot = r := congrArg (fun m : ResidencyMap => (m.slots[slot]?).getD SlotRec.free) hmap
    have hslots : u.map = s.map := hmap
    have hnow (z : Context) (v : State) : (setCtx c (some z) v).slot slot = v.slot slot := by cases c <;> rfl
    refine ⟨fun hok habort hfree hflash hdisk hretry => ?passes, fun hlow hhigh hcause hgoes => ?fails⟩
    case passes =>
      have hpass : exec (.pieceCompletion p id status offset) s =
          .next (settle s (runMover moverBound (passPiece c q u))) := by
        have htaken := hpiece.taken hid (completionStatus_ok (x := q) (status := status) offset (by rw [hok]; rfl)) nofun
        rwa [moverTake, if_pos rfl] at htaken
      have hopen (port : Port) : forcedAtIssue port s = false := by
        cases port
        · exact forcedAtIssue_flash hflash
        · exact forcedAtIssue_disk hdisk hretry
      have hissues {v : State} {z z' : Context} {port : Port} {op : PieceOp} {target : PieceTarget} {g : Run}
          (hsend : Sending s v) (hvf : v.flash = u.flash) (hvd : v.disk = u.disk)
          (hadvance : passPiece c q u = advance c (setCtx c (some z) v))
          (hwork : nextWork c z (setCtx c (some z) v) = .issue ⟨port, op, target, g.count, .staging c g.first⟩ z') :
          issues v z' port op target g := by
        obtain ⟨id', hid', hjoins⟩ := hsend.issues (hopen port) hfree (pool_congr hvf hvd) hwork moverBound
        refine ⟨id', hid', hpass.trans ?_⟩
        rw [← hjoins, ← hadvance]
      have hends {v : State} {z : Context} (e : JobEnd) (hv : Beside s v) (hcls : z.cls = x.cls)
          (haction : z.action = x.action) (hzslot : z.slot = some slot) (hzabort : z.abort = none)
          (hend : passPiece c q u = endJob c e (setCtx c (some z) v)) :
          ∃ t, ends t v ∧ t.mover.failure = (recordEnd z e s).mover.failure ∧
            (∀ reason lba, e = .failed reason lba → t.sup.flags.getLsbD 4 = true) := by
        obtain ⟨hnone, hjob, hleft, hfailure, hfailed, _⟩ := hpiece.ends e hv hcls haction hzslot (by simp [hzabort]) rfl
        exact ⟨_, ⟨hpass.trans (by rw [← hend]), hnone, hjob, hleft⟩, hfailure, hfailed⟩
      refine ⟨fun lo hi haction hphase hspan => ?diskRead, fun lo hi haction hphase hspan hlt => ?flashWrite,
        fun haction hphase hpiece' => ?flashRead, fun haction hphase hlt => ?diskWrite⟩
      case diskRead =>
        intro z missing
        have hadvance := hpiece.read habort (.inl hphase) (by rw [passed_diskRead hphase hrun]; nofun)
        rw [passed_diskRead (x := rewatched s.params.watchdogCode x) hphase hrun] at hadvance
        have hwork := nextWork_flashWrite (c := c) (x := z) (s := setCtx c (some z) u) rfl hslot hspan
        rw [hnow, huslot] at hwork
        refine ⟨fun g tail hruns => ?_, fun hruns => ?_⟩
        · rw [show runs (rangeSet z.cursor (hi + 1 - z.cursor) &&& ~~~r.valid) = g :: tail from hruns] at hwork
          exact hissues hsending rfl rfl hadvance hwork
        · rw [show runs (rangeSet z.cursor (hi + 1 - z.cursor) &&& ~~~r.valid) = [] from hruns] at hwork
          obtain ⟨t, ht, hfailure, _⟩ := hends (z := z) .done hbeside rfl rfl hslot habort
            (hadvance.trans (advance_finishes (setCtx_ctx ..) hwork))
          exact ⟨t, ht, hfailure⟩
      case flashWrite =>
        intro v missing
        have hadvance := hpiece.write habort (applyPiece_flashWrite hphase hslot hrun)
        rw [passed_flashWrite (x := rewatched s.params.watchdogCode x) hphase, passed_flashWrite hphase,
          leaveFlushPhase_other (by rw [hphase]; nofun)] at hadvance
        have hwork := nextWork_flashWrite (c := c) (x := y) (s := setCtx c (some y) v) hphase hslot hspan
        have hvalid : (v.slot slot).valid = r.valid ||| run := by
          rw [modifySlot_slot _ (by rw [hslots]; exact hlt), huslot]
        rw [hnow, hvalid] at hwork
        have hvs : Sending s v := hsending.modifySlot _ _
        refine ⟨fun g tail hruns => ?_, fun hruns => ?_⟩
        · rw [show runs (rangeSet y.cursor (hi + 1 - y.cursor) &&& ~~~(r.valid ||| run)) = g :: tail from hruns] at hwork
          exact hissues hvs (by simp [v]) (by simp [v]) hadvance hwork
        · rw [show runs (rangeSet y.cursor (hi + 1 - y.cursor) &&& ~~~(r.valid ||| run)) = [] from hruns] at hwork
          obtain ⟨t, ht, hfailure, _⟩ := hends (z := y) .done (hbeside.modifySlot _ _) rfl rfl hslot habort
            (hadvance.trans (advance_finishes (setCtx_ctx ..) hwork))
          exact ⟨t, ht, hfailure⟩
      case flashRead =>
        have hadvance := hpiece.read habort (.inr hphase) (by rw [passed_flashRead hphase hrun]; nofun)
        rw [passed_flashRead (x := rewatched s.params.watchdogCode x) hphase hrun] at hadvance
        have hwork := nextWork_diskWrite (c := c)
          (x := { y with phase := .diskWrite, staged := x.staged ||| run })
          (s := setCtx c (some { y with phase := .diskWrite, staged := x.staged ||| run }) u) rfl hchunk hpiece'
        exact hissues hsending rfl rfl hadvance hwork
      case diskWrite =>
        intro v dirty
        have hadvance : passPiece c q u = advance c (setCtx c (some ((rewatched s.params.watchdogCode x).passed q))
            (leaveFlushPhase (x.passed q) v)) := hpiece.write habort (applyPiece_diskWrite hphase hslot hrun)
        rw [passed_diskWrite (x := rewatched s.params.watchdogCode x) hphase, passed_diskWrite hphase] at hadvance
        have hin : slot < v.map.slots.length := by rw [modifySlot_length, hslots]; exact hlt
        have hvslot : v.slot slot = { r with dirty := dirty } := by
          rw [modifySlot_slot _ (by rw [hslots]; exact hlt), huslot]
        have hvs : Sending s v := hsending.modifySlot _ _
        have hvb : Beside s v := hbeside.modifySlot _ _
        refine ⟨fun g hg => ?_, fun hlength => ⟨fun hflush => ?_, fun hevict hflushing => ?_⟩⟩
        · obtain ⟨hmore, _⟩ := List.getElem?_eq_some_iff.mp hg
          rw [if_pos (by exact hmore), if_pos hmore, leaveFlushPhase_other (by nofun)] at hadvance
          exact hissues hvs (by simp [v]) (by simp [v]) hadvance (nextWork_flashRead rfl hslot hg)
        · have hover : ¬ x.runIndex + 1 < x.snapshot.length := by omega
          have hnot : ¬ x.action = .evict := by simp [hflush]
          rw [if_neg (by exact hover), if_neg hover, if_neg (by exact hnot), if_neg hnot,
            leaveFlushPhase_other (by nofun)] at hadvance
          rw [advance_finishes (setCtx_ctx ..) (nextWork_flushed (by rfl) (by exact hflush)
            (List.getElem?_eq_none_iff.mpr (by exact Nat.le_of_eq hlength.symm)))] at hadvance
          obtain ⟨t, ht, hfailure, _⟩ := hends .done hvb (by rfl) (by rfl) (by exact hslot) (by exact habort) hadvance
          exact ⟨t, ht, hfailure⟩
        · have hover : ¬ x.runIndex + 1 < x.snapshot.length := by omega
          have hstate : (v.slot slot).state = .flushing := by rw [hvslot]; exact hflushing
          rw [if_neg (by exact hover), if_neg hover, if_pos (by exact hevict), if_pos hevict,
            leaveFlushPhase_evict (by rfl) (by exact hslot),
            advance_checks (setCtx_ctx ..) (nextWork_evictCheck (by rfl))] at hadvance
          have hrecord (z : Context) :
              ((setCtx c (some z) (modifySlot slot leftFlushing v)).slot slot).dirty = dirty ∧
              ((setCtx c (some z) (modifySlot slot leftFlushing v)).slot slot).pinned = r.pinned ∧
              ((setCtx c (some z) (modifySlot slot leftFlushing v)).slot slot).inflight = r.inflight := by
            rw [hnow, modifySlot_slot _ hin, hvslot]
            exact leftFlushing_keeps { r with dirty := dirty }
          obtain ⟨hdirty', hpinned', hinflight'⟩ := hrecord _
          refine ⟨fun hdirty hpinned hinflight => ?_, fun hbusy => ?_⟩
          · rw [evictCheck_clean (by exact hslot) (hdirty'.trans hdirty) (hpinned'.trans hpinned)
              (hinflight'.trans hinflight), putSlot_setCtx] at hadvance
            obtain ⟨t, ⟨hexec, hnone, hjob, hleft⟩, hfailure, _⟩ :=
              hends .done ((hvb.modifySlot _ _).putSlot slot .free) (by rfl) (by rfl) (by exact hslot)
                (by exact habort) hadvance
            exact ⟨t, ⟨hexec, hnone, hjob, hleft.trans (modifySlot_map_congr _ _ (putSlot_leftFlushing .free hin hstate))⟩,
              hfailure⟩
          · rw [evictCheck_busy (by exact hslot)
              (hbusy.imp (fun h heq => h (hdirty'.symm.trans heq))
                (Or.imp hpinned'.trans fun h heq => h (hinflight'.symm.trans heq)))] at hadvance
            obtain ⟨t, ⟨hexec, hnone, hjob, hleft⟩, hfailure, hfailed⟩ :=
              hends (.failed .busy none) (hvb.modifySlot _ _) (by rfl) (by rfl) (by exact hslot) (by exact habort) hadvance
            refine ⟨t, ⟨hexec, hnone, hjob, hleft.trans ?_⟩, hfailed _ _ rfl, hfailure.trans ?_⟩
            · rw [if_neg (by simp [hevict])]
              exact afterFlush_leftFlushing_map hin hstate
            · rw [← hevict, ← hchunk, ← hslot]
              rfl
    case fails =>
      intro e reason
      obtain ⟨st, hst, hnotOk, haborted, hmedia, hreason, hlba⟩ := failedPiece (p := p) (offset := offset) hlow hhigh hcause
        hchunk hrun (reason := reason) rfl
      have hexec := hpiece.taken hid hst fun ⟨hp, hsent, hspindle, hab⟩ => hgoes ⟨hp, hsent, hspindle, haborted hab⟩
      rw [moverTake, if_neg hnotOk, failAtPiece_ends p st ((hctx c).trans hx), hreason, hlba] at hexec
      obtain ⟨hlost, hlostMap⟩ := judgeMediaLoss_beside (x := x) (q := q) hbeside st
      obtain ⟨hnone, hjob, hleft, hfailure, hfailed, hgrows⟩ := hpiece.ends (z := { x with piece := none })
        (.failed reason (if reason = .mediaError then some (chunk * 256 + first + e) else none)) hlost rfl rfl hslot hcause rfl
      refine ⟨_, ⟨hexec, hnone, hjob, hleft.trans (modifySlot_map_congr _ _ hlostMap)⟩, hfailed _ _ rfl,
        hfailure.trans ?_, fun hphase h1 hdirty => hgrows 8 ?_⟩
      · rw [← hslot, ← hchunk]
        rfl
      · have hlostDirty : rangeSet (first + e) (q.count - e) &&& (u.slot slot).dirty ≠ 0#256 := by
          rw [huslot]
          exact hdirty
        rw [hmedia h1]
        exact judgeMediaLoss_sets hphase hslot hrun hlostDirty

end Sys2Proof.Machine
end

section
/-! O45. The grant (R122, R123, R129, R152), and the stall of the Pin Scanner that a Pin-Fill's leaving ends (R61). -/

namespace Sys2Proof.Machine

open Sys2Proof.Safety

/-! ### The scanner's look within a grant (R61) -/

section
variable {s : State} {e c : Nat} {raised : Bool}

/-- A stall whose two conditions are over gives way to the examination of its chunk (R61). -/
def stallOver (s : State) : Prop := s.stalls = true ∧ pinQueueFull s = false ∧ pinLimitHolds s = false

theorem resumeScan_stands (h : ¬ stallOver s) : (resumeScan s).arbiter = s.arbiter := by
  by_cases hstalls : s.stalls = true
  · obtain ⟨e, c, raised, hscanner⟩ := stalls_iff.mp hstalls
    have hquiet : scanChunk (judgeStall s) = judgeStall s := by
      refine scanChunk_quiet fun e' c' hs => ?_
      rw [judgeStall_stalled hscanner] at hs
      split at hs
      next => rw [hscanner] at hs; cases hs
      next hfull =>
        split at hs
        next =>
          split at hs
          next => rw [hscanner] at hs; cases hs
          next => cases hs
        next hlimit => exact h ⟨hstalls, by simpa using hfull, by simpa using hlimit⟩
    rw [resumeScan, if_pos hstalls, hquiet]
    simp
  · rw [resumeScan, if_neg hstalls]

/-- The chunk of a stall that is over is posted unless it is passed over (R60, R61, R62). -/
theorem resumeScan_examines (hmode : s.sup.mode ≠ .loading) (hscanner : s.scanner = .scanning e c (.stalled raised))
    (h : stallOver s) : (resumeScan s).arbiter = if pinPassesOver s c then s.arbiter else { s.arbiter with
      queues := s.arbiter.queues.set .pinFill (s.arbiter.queues.get .pinFill ++ [⟨.fill, .chunk c⟩]) } := by
  obtain ⟨hstalls, hfull, hlimit⟩ := h
  have hjudged : judgeStall s = { s with scanner := .scanning e c .none } := by
    rw [judgeStall_stalled hscanner, if_neg (by simp [hfull]), if_neg (by simp [hlimit])]
  rw [resumeScan, if_pos hstalls, hjudged, scanChunk_cases (e := e) (c := c) rfl]
  by_cases hpassed : pinPassesOver s c = true
  · rw [if_pos hpassed, if_pos (by exact hpassed)]
  · have hposts := post_fill_accepted (s := { s with scanner := .scanning e c .none }) (k := .pinFill) (c := c) hmode
      (by exact isDuplicate_of_not_passed (s := s) (by simpa using hpassed)) (by exact hfull)
    have hroom : ¬ (pinLimitHolds s || pinQueueFull s) = true := by simp [hfull, hlimit]
    rw [if_neg hpassed, if_neg (by exact hpassed), if_neg (by exact hroom), hposts]

/-- A look at the stall changes the Pin-Fill queue at most. -/
theorem resumeScan_arbiter_frame (hmode : s.sup.mode ≠ .loading) :
    (resumeScan s).arbiter = { s.arbiter with queues := (resumeScan s).arbiter.queues } ∧
    ∀ y, y ≠ .pinFill → (resumeScan s).arbiter.queues.get y = s.arbiter.queues.get y := by
  by_cases hover : stallOver s
  · obtain ⟨e, c, raised, hscanner⟩ := stalls_iff.mp hover.1
    rw [resumeScan_examines hmode hscanner hover]
    split
    · exact ⟨rfl, fun _ _ => rfl⟩
    · exact ⟨rfl, fun y hy => PerClass.get_set_of_ne _ _ hy⟩
  · rw [resumeScan_stands hover]
    exact ⟨rfl, fun _ _ => rfl⟩

end

/-! ### The grant -/

/-- The state in which the granted entry has left its queue and has its context (R122, R129). -/
def placed (k : JobClass) (j : Job) (rest : List Job) (s : State) : State :=
  setService k (.job (if occupiedContexts s ≠ 0 then .pending else .active) j (grantContext s))
    (setCtx (grantContext s) (some (grantedContext k j (needsDisk s j))) (leaveQueue k rest s))

/-- The state in which the granted job starts, or waits for the ACTIVE job (R61, R100, R101). -/
def granted (k : JobClass) (j : Job) (rest : List Job) (s : State) : State :=
  let given := if k = .pinFill then resumeScan (placed k j rest s) else placed k j rest s
  if needsDisk s j = true ∧ k.needsRunning = false then actOnNeed given else given

section
variable {k : JobClass} {j : Job} {rest : List Job} {s : State}

theorem exec_grant (h : nextGrant s = some k) : exec .grant s = .next (settle s (runMover moverBound (grant k s))) := by
  rw [show exec .grant s = .next (event s ((nextGrant s).map (fun k => runMover moverBound (grant k s)))) from rfl, h]
  rfl

theorem grant_idle (hq : s.arbiter.queues.get k = j :: rest) (hidle : occupiedContexts s = 0) :
    grant k s = (granted k j rest s, some (.start (grantContext s))) := by
  unfold grant
  rw [hq]
  dsimp only
  unfold granted placed
  simp only [hidle]
  rfl

theorem grant_occupied (hq : s.arbiter.queues.get k = j :: rest) (hoccupied : occupiedContexts s ≠ 0) :
    grant k s = askToSuspend k (grantContext s) (granted k j rest s) := by
  unfold grant
  rw [hq]
  dsimp only
  unfold granted placed
  simp only [bne_iff_ne, hoccupied, ne_eq, not_false_eq_true, if_true]

theorem leaveQueue_arbiter_eq : (leaveQueue k rest s).arbiter =
    { s.arbiter with queues := s.arbiter.queues.set k rest } := by
  unfold leaveQueue
  split
  · dsimp only
    split <;> simp
  · rfl

theorem leaveQueue_sup_eq : (leaveQueue k rest s).sup = s.sup ∧ (leaveQueue k rest s).scanner = s.scanner := by
  unfold leaveQueue
  split
  · dsimp only
    split <;> simp
  · exact ⟨rfl, rfl⟩

theorem placed_arbiter : (placed k j rest s).arbiter = { s.arbiter with
    queues := s.arbiter.queues.set k rest
    service := s.arbiter.service.set k
      (.job (if occupiedContexts s ≠ 0 then .pending else .active) j (grantContext s)) } := by
  have harbiter := leaveQueue_arbiter_eq (k := k) (rest := rest) (s := s)
  rw [placed, setService]
  simp [harbiter]

theorem placed_frame : (placed k j rest s).map = s.map ∧ (placed k j rest s).ranges = s.ranges ∧
    (placed k j rest s).scanner = s.scanner ∧ (placed k j rest s).sup = s.sup ∧ (placed k j rest s).params = s.params ∧
    (placed k j rest s).flash = s.flash ∧ (placed k j rest s).disk = s.disk ∧ (placed k j rest s).spindle = s.spindle ∧
    (placed k j rest s).heat = s.heat ∧ (placed k j rest s).choice = s.choice := by
  obtain ⟨hsup, hscanner⟩ := leaveQueue_sup_eq (k := k) (rest := rest) (s := s)
  simp [placed, hsup, hscanner]

theorem placed_mover : (placed k j rest s).mover =
    (setCtx (grantContext s) (some (grantedContext k j (needsDisk s j))) s).mover := by
  rw [placed, setService]
  cases grantContext s <;> simp [setCtx]

/-- What a grant leaves alone before the job starts. -/
theorem granted_frame : (granted k j rest s).map = s.map ∧ (granted k j rest s).ranges = s.ranges ∧
    (granted k j rest s).params = s.params ∧ (granted k j rest s).flash = s.flash ∧
    (granted k j rest s).disk.list = s.disk.list ∧ (granted k j rest s).disk.withheld = s.disk.withheld ∧
    (granted k j rest s).heat = s.heat ∧
    (granted k j rest s).mover = (setCtx (grantContext s) (some (grantedContext k j (needsDisk s j))) s).mover ∧
    (granted k j rest s).sup.holds = s.sup.holds := by
  obtain ⟨hmap, hranges, _, hsup, hparams, hflash, hdisk, _, hheat, _⟩ := placed_frame (k := k) (j := j) (rest := rest) (s := s)
  have hholds (u : State) : (resumeScan u).sup.holds = u.sup.holds := (resumeScan_sup (k0 := u.sup) (.rfl' _)).holds
  have hmover := placed_mover (k := k) (j := j) (rest := rest) (s := s)
  unfold granted
  dsimp only
  split <;> split <;> simp [hholds, hmap, hranges, hsup, hparams, hflash, hdisk, hheat, hmover]

/-- The Arbiter after a grant: the queues, but for the Pin-Fill queue of a Pin-Fill's grant, lose the entry alone. -/
theorem granted_arbiter : (granted k j rest s).arbiter =
    if k = .pinFill then (resumeScan (placed k j rest s)).arbiter else (placed k j rest s).arbiter := by
  unfold granted
  dsimp only
  split <;> split <;> simp [*]

/-- The services of a grant, and its queues as far as the scanner's look leaves them (R61, R122). -/
theorem granted_arbiter_frame (hmode : s.sup.mode = .online) :
    (granted k j rest s).arbiter = { (placed k j rest s).arbiter with queues := (granted k j rest s).arbiter.queues } ∧
    (∀ y, y ≠ .pinFill → (granted k j rest s).arbiter.queues.get y = (s.arbiter.queues.set k rest).get y) ∧
    (k ≠ .pinFill ∨ s.stalls = false → (granted k j rest s).arbiter.queues = s.arbiter.queues.set k rest) := by
  obtain ⟨_, _, hscanner, hsup, _⟩ := placed_frame (k := k) (j := j) (rest := rest) (s := s)
  have hqueues : (placed k j rest s).arbiter.queues = s.arbiter.queues.set k rest := by rw [placed_arbiter]
  rw [granted_arbiter, ← hqueues]
  split
  next hk =>
    obtain ⟨hlook, hothers⟩ := resumeScan_arbiter_frame (s := placed k j rest s) (by rw [hsup, hmode]; nofun)
    refine ⟨hlook, hothers, fun hquiet => ?_⟩
    have hidle : (placed k j rest s).stalls = false := by
      rw [State.stalls, hscanner]
      exact hquiet.resolve_left (fun hne => hne hk)
    rw [resumeScan_quiet hidle]
  next => exact ⟨rfl, fun _ _ => rfl, fun _ => rfl⟩

theorem granted_scanner (h : k ≠ .pinFill) : (granted k j rest s).scanner = s.scanner := by
  obtain ⟨_, _, hscanner, _⟩ := placed_frame (k := k) (j := j) (rest := rest) (s := s)
  unfold granted
  dsimp only
  rw [if_neg h]
  split <;> simp [hscanner]

/-- The spindle and the messages to its back-end at a grant's disk need (R100, R101). -/
theorem granted_spindle : (granted k j rest s).spindle = (if needsDisk s j = true ∧ k.needsRunning = false
      then actOnNeed s else s).spindle ∧
    (granted k j rest s).disk = (if needsDisk s j = true ∧ k.needsRunning = false then actOnNeed s else s).disk := by
  obtain ⟨_, _, _, _, hparams, _, hdisk, hspindle, _⟩ := placed_frame (k := k) (j := j) (rest := rest) (s := s)
  have hneed {u : State} (hs : u.spindle = s.spindle) (hd : u.disk = s.disk) (hp : u.params = s.params) :
      (actOnNeed u).spindle = (actOnNeed s).spindle ∧ (actOnNeed u).disk = (actOnNeed s).disk := by
    simp only [actOnNeed, hs, hd]
    split
    · split
      · simp [sendStart, sendMessage, setPort, State.port, hs, hd, hp]
      · exact ⟨hs, hd⟩
    · exact ⟨rfl, rfl⟩
    · exact ⟨hs, hd⟩
    · exact ⟨hs, hd⟩
  unfold granted
  dsimp only
  split
  · split
    · exact hneed (by simp [hspindle]) (by simp [hdisk]) (by simp [hparams])
    · exact hneed hspindle hdisk hparams
  · split
    · exact ⟨by simp [hspindle], by simp [hdisk]⟩
    · exact ⟨hspindle, hdisk⟩

end

/-! ### The context of a granted job -/

theorem grantContext_free {s : State} {c c' : CtxId} {x : Context} (hroom : occupiedContexts s < 2) (hx : s.ctx c' = some x)
    (hne : c ≠ c') : grantContext s = c ∧ occupiedContexts s ≠ 0 := by
  unfold grantContext occupiedContexts at *
  cases c <;> cases c'
  · exact absurd rfl hne
  · have h1 : s.mover.ctx1 = some x := hx
    cases h0 : s.mover.ctx0 with
    | none => simp [h1]
    | some y => simp [h0, h1] at hroom
  · have h0 : s.mover.ctx0 = some x := hx
    simp [h0]
  · exact absurd rfl hne

/-- Settles O45. -/
theorem grantAsksToSuspend : Obligations.GrantAsksToSuspend := by
  unfold Obligations.GrantAsksToSuspend
  intro s k k' j j' rest c c' x id hgrant hq hactive honly hx hpiece hne
  obtain ⟨⟨hmode, _, hroom, _⟩, ⟨heligible, _⟩, _⟩ := nextGrant_eq_some.mp hgrant
  obtain ⟨_, _, hnone, _⟩ := eligible_iff.mp heligible
  obtain ⟨hcontext, hoccupied⟩ := grantContext_free hroom hx hne
  have hk : k' ≠ k := by
    rintro rfl
    rw [hnone] at hactive
    contradiction
  obtain ⟨hmap, _, hparams, hflash, hlist, _, hheat, hmover, _⟩ := granted_frame (k := k) (j := j) (rest := rest) (s := s)
  obtain ⟨harbiter, hothers, hqueues⟩ := granted_arbiter_frame (k := k) (j := j) (rest := rest) hmode
  have hservice : (granted k j rest s).arbiter.service = s.arbiter.service.set k (.job .pending j c) := by
    rw [harbiter, placed_arbiter, hcontext, if_pos hoccupied]
  have hthis : (granted k j rest s).arbiter.service.get k' = .job .active j' c' := by
    rw [hservice, PerClass.get_set_of_ne _ _ hk, hactive]
  have hothers' (y : JobClass) (j'' : Job) (c'' : CtxId) (hy : y ≠ k') :
      (granted k j rest s).arbiter.service.get y ≠ .job .active j'' c'' := by
    rw [hservice, PerClass.get_set]
    split
    · nofun
    · exact honly y j'' c'' hy
  have hctx (d : CtxId) : (granted k j rest s).ctx d =
      (setCtx c (some (grantedContext k j (needsDisk s j))) s).ctx d := by
    rw [← hcontext]
    cases d
    · exact congrArg Mover.ctx0 hmover
    · exact congrArg Mover.ctx1 hmover
  have hgiven : (granted k j rest s).ctx c = some (grantedContext k j (needsDisk s j)) := (hctx c).trans (setCtx_ctx ..)
  have hkept : (granted k j rest s).ctx c' = some x := by
    rw [hctx, ← hx]
    cases c <;> cases c'
    · exact absurd rfl hne
    · rfl
    · rfl
    · exact absurd rfl hne
  have hasks : runMover moverBound (grant k s) = setService k' (.job .suspending j' c') (granted k j rest s) := by
    rw [grant_occupied hq hoccupied, hcontext]
    unfold askToSuspend
    rw [serviceIn_eq_some hthis hothers']
    dsimp only
    rw [hkept, if_pos (by simp [hpiece]), runMover_none, setServiceState_job hthis]
  have hend (d : CtxId) := settle_ctx s (setService k' (.job .suspending j' c') (granted k j rest s)) d
  refine ⟨_, by rw [exec_grant hgrant, hasks], ?_, fun y hy => ?_, fun hquiet => ?_, ?_, ?_, ?_, ?_, ?_, ?_, ?_⟩
  · rw [settle_arbiter, setService]
    dsimp only
    rw [hservice, harbiter, placed_arbiter]
  · rw [settle_arbiter]
    exact hothers y hy
  · rw [settle_arbiter]
    exact hqueues hquiet
  · rcases hend c with h | h
    · exact h.trans hgiven
    · exact h.trans (congrArg (Option.map _) hgiven)
  · rcases hend c' with h | h
    · exact ⟨x.watchdog, h.trans hkept⟩
    · exact ⟨none, h.trans (congrArg (Option.map _) hkept)⟩
  · exact (settle_map ..).trans hmap
  · exact (settle_flash ..).trans hflash
  · rw [(settle_lists _ _).1]
    exact hlist
  · exact (settle_params ..).trans hparams
  · exact (settle_heat ..).trans hheat

end Sys2Proof.Machine
end

section
/-! O44. The start of a granted job (R129, R133, R137, R140, R143). -/

namespace Sys2Proof.Machine

open Sys2Proof.Safety

/-! ### Watchdogs at the end of an event (R143) -/

section
variable {b s : State} {c d : CtxId} {x : Context}

theorem waitsForDisk_congr {u : State} (h : u.disk.list = s.disk.list) : waitsForDisk u = waitsForDisk s := by
  unfold waitsForDisk
  rw [h]

theorem stopWatchdog_other (hne : d ≠ c) (s : State) : (stopWatchdog s d).ctx c = s.ctx c := by
  unfold stopWatchdog
  split
  · cases c <;> cases d
    · exact absurd rfl hne
    · rfl
    · rfl
    · exact absurd rfl hne
  · rfl

theorem stopWatchdog_same (s : State) (c : CtxId) : (stopWatchdog s c).ctx c =
    (s.ctx c).map (fun x => if (s.spindle.state != .running && waitsForDisk s x) = true then x.stopWatchdog else x) := by
  unfold stopWatchdog modifyCtx
  cases hx : s.ctx c with
  | none => exact hx
  | some x =>
    by_cases hstops : (s.spindle.state != .running && waitsForDisk s x) = true
    · rw [Option.any_some, if_pos hstops, setCtx_ctx, Option.map_some, Option.map_some, if_pos hstops]
      rfl
    · rw [Option.any_some, if_neg hstops, hx, Option.map_some, if_neg hstops]

theorem judgeWatchdogs_ctx_eq (s : State) (c : CtxId) : (judgeWatchdogs s).ctx c =
    (s.ctx c).map (fun x => if (s.spindle.state != .running && waitsForDisk s x) = true then x.stopWatchdog else x) := by
  have htwo : judgeWatchdogs s = stopWatchdog (stopWatchdog s .ctx0) .ctx1 := rfl
  rw [htwo]
  cases c
  · rw [stopWatchdog_other (by decide), stopWatchdog_same]
  · have hspindle : (stopWatchdog s .ctx0).spindle = s.spindle := by simp
    have hdisk : (stopWatchdog s .ctx0).disk = s.disk := by simp
    rw [stopWatchdog_same, stopWatchdog_other (by decide), hspindle, waitsForDisk_congr (congrArg PortUnit.list hdisk)]

/-- A watchdog stops exactly where its job's disk piece waits behind a spindle that is not RUNNING (R143). -/
theorem settle_ctx_eq (b s : State) (c : CtxId) : (settle b s).ctx c = (s.ctx c).map (fun x =>
    if ((settle b s).spindle.state != .running && waitsForDisk s x) = true then x.stopWatchdog else x) := by
  obtain ⟨_, _, hspindle, hdisk⟩ := judged_frame b s
  have hmover : (settle b s).mover = (judged b s).mover := by simp [settle_eq]
  have hctx : (settle b s).ctx c = (judged b s).ctx c := by
    cases c
    · exact congrArg Mover.ctx0 hmover
    · exact congrArg Mover.ctx1 hmover
  have hbefore (u : State) : (judgeWatchdogs u).spindle = u.spindle ∧ (judgeWatchdogs u).disk = u.disk := by simp
  have hseen : ∀ u : State, judged b s = judgeWatchdogs u → u.ctx c = s.ctx c →
      (judged b s).ctx c = (s.ctx c).map (fun x =>
        if ((settle b s).spindle.state != .running && waitsForDisk s x) = true then x.stopWatchdog else x) := by
    intro u hu hsame
    obtain ⟨hspindle', hdisk'⟩ := hbefore u
    have hlist : u.disk.list = s.disk.list := by rw [← hdisk', ← hu, hdisk, (settle_lists b s).1]
    rw [← hspindle, hu, judgeWatchdogs_ctx_eq, hsame, hspindle', waitsForDisk_congr hlist]
  rw [hctx]
  refine hseen _ rfl ?_
  cases c <;> simp [State.ctx]

theorem settle_ctx_unwaiting (hx : s.ctx c = some x) (hno : waitsForDisk s x = false) : (settle b s).ctx c = some x := by
  rw [settle_ctx_eq, hx]
  simp [hno]

theorem settle_ctx_waiting (hx : s.ctx c = some x) (hwaits : waitsForDisk s x = true) :
    (settle b s).ctx c = some (if (settle b s).spindle.state = .running then x else x.stopWatchdog) := by
  rw [settle_ctx_eq, hx]
  by_cases hrunning : (settle b s).spindle.state = .running <;> simp [hwaits, hrunning]

end

/-! ### The spindle at a disk need -/

theorem actOnNeed_running (s : State) : (actOnNeed s).spindle.state = .running ↔ s.spindle.state = .running := by
  unfold actOnNeed
  cases hs : s.spindle.state with
  | stopped =>
    dsimp only
    split
    · simp [sendStart, sendMessage, setPort, State.port]
    · simp [hs]
  | starting => simp [hs]
  | running => simp [hs]
  | stopping => simp [hs]

theorem needed_not_running {s : State} (h : s.spindle.state ≠ .running) : (needed s).spindle.state ≠ .running := by
  rw [needed, judgeSpinDown_still (by simp [h]), judgeNeeds]
  split
  · rwa [ne_eq, actOnNeed_running]
  · exact h

/-- With a disk piece listed, the end of an event neither starts nor ends RUNNING. -/
theorem settle_running_iff {b s : State} (hlist : s.disk.list ≠ []) :
    (settle b s).spindle.state = .running ↔ s.spindle.state = .running := by
  rw [settle_spindle_state]
  constructor
  · exact fun h => Decidable.byContradiction fun hnot => needed_not_running hnot h
  · exact fun h => by rw [needed_running h (.inr (.inl hlist)), h]

/-! ### A piece that has joined -/

section
variable {u w : PortUnit} {x : Piece} {sends : Bool} {limit : Nat}

theorem joined_list_congr (h : u.list = w.list) : (joined u x sends limit).list = (joined w x sends limit).list := by
  cases sends <;> simp [joined, PortUnit.sendAll, h]

theorem joined_list_ne_nil : (joined u x sends limit).list ≠ [] := by
  cases sends <;> simp [joined, PortUnit.sendAll]

theorem joined_waits (hx : x.state = .waiting) :
    (joined u x sends limit).list.any (fun q => q.id == x.id && q.state != .aborting) = true := by
  cases sends <;> simp [joined, PortUnit.sendAll, hx]

end

/-! ### The start of a job (R129) -/

section
variable {c : CtxId} {x : Context} {s : State} {i : Nat}

theorem loadWatchdog_some (hx : s.ctx c = some x) (hpiece : x.piece = none) :
    loadWatchdog c s = setCtx c (some (rewatched s.params.watchdogCode x)) s := by
  have hsame : setCtx c (some { x with piece := none }) s = s := by
    rw [← hpiece]
    exact setCtx_self hx
  have hload := loadWatchdog_rewatched c x s
  rwa [hsame] at hload

theorem startJob_fill (hx : s.ctx c = some x) (hpiece : x.piece = none) (haction : x.action = .fill) :
    startJob c s = startFill c (rewatched s.params.watchdogCode x) (setCtx c (some (rewatched s.params.watchdogCode x)) s) := by
  unfold startJob
  rw [loadWatchdog_some hx hpiece, setCtx_ctx]
  exact if_pos haction

theorem startJob_flush (hx : s.ctx c = some x) (hpiece : x.piece = none) (haction : x.action ≠ .fill)
    (hslot : jobSlot (rewatched s.params.watchdogCode x) s = some i) : startJob c s =
      startFlush c (rewatched s.params.watchdogCode x) i (setCtx c (some (rewatched s.params.watchdogCode x)) s) := by
  unfold startJob
  rw [loadWatchdog_some hx hpiece, setCtx_ctx]
  dsimp only
  rw [if_neg (by exact haction), hslot]

/-- A fill of an unbound chunk takes the lowest-numbered FREE slot (R13, R133). -/
theorem startFill_binds {y : Option Context} {chunk : Nat} (hchunk : x.chunk = some chunk)
    (hbypass : chunkIn s .bypass chunk = false) (hunbound : s.map.bound chunk = none) (hfree : s.map.lowestFree = some i) :
    startFill c x (setCtx c y s) =
      advance c (setCtx c (some { x with slot := some i, phase := .diskRead }) (putSlot i (filledSlot s chunk) s)) := by
  have hmap : (setCtx c y s).map = s.map := by simp
  have hranges (k : PlacementClass) : chunkIn (setCtx c y s) k chunk = chunkIn s k chunk := by cases c <;> rfl
  have hfilled : filledSlot (setCtx c y s) chunk = filledSlot s chunk := by rw [filledSlot, filledSlot, hranges]
  unfold startFill takeFillSlot
  rw [hchunk, Option.getD_some]
  dsimp only
  rw [hranges, hbypass, hmap, hunbound, hfree]
  dsimp only
  rw [if_neg Bool.false_ne_true, hfilled, putSlot_setCtx, setCtx_setCtx]

/-- The context of a flush that knows its slot (R137). -/
def knownSlot (x : Context) (i : Nat) (s : State) : Context := { x with slot := some i, chunk := (s.slot i).chunk }

theorem setCtx_slot (c : CtxId) (y : Option Context) (s : State) (i : Nat) : (setCtx c y s).slot i = s.slot i := by
  cases c <;> rfl

theorem startFlush_dirty {y : Option Context} (hstate : (s.slot i).state = .resident) (hdirty : (s.slot i).dirty ≠ 0#256) :
    startFlush c x i (setCtx c y s) = advance c (setCtx c
      (some { knownSlot x i s with phase := .flashRead, snapshot := runs (s.slot i).dirty, runIndex := 0 })
      (putSlot i { s.slot i with state := .flushing, redirty := 0#256 } s)) := by
  rw [startFlush]
  dsimp only
  rw [setCtx_slot, if_neg (by simp [hstate]), if_pos hdirty, putSlot_setCtx, setCtx_setCtx]
  rfl

theorem startFlush_evicts {y : Option Context} (hstate : (s.slot i).state = .resident) (hdirty : (s.slot i).dirty = 0#256)
    (haction : x.action = .evict) : startFlush c x i (setCtx c y s) =
      advance c (setCtx c (some { knownSlot x i s with phase := .evictCheck }) s) := by
  rw [startFlush]
  dsimp only
  rw [setCtx_slot, if_neg (by simp [hstate]), if_neg (by simp [hdirty]), if_pos haction, setCtx_setCtx]
  rfl

theorem startFlush_clean {y : Option Context} (hstate : (s.slot i).state = .resident) (hdirty : (s.slot i).dirty = 0#256)
    (haction : x.action ≠ .evict) : startFlush c x i (setCtx c y s) =
      endJob c .skipped (setCtx c (some (knownSlot x i s)) s) := by
  rw [startFlush]
  dsimp only
  rw [setCtx_slot, if_neg (by simp [hstate]), if_neg (by simp [hdirty]), if_neg haction, setCtx_setCtx]
  rfl

end

end Sys2Proof.Machine
end

section
/-! O44, continued: the grant with both contexts free. -/

namespace Sys2Proof.Machine

open Sys2Proof.Safety

/-! ### What the scanner sees within a grant (R61, R62) -/

section
variable {k : JobClass} {j : Job} {rest : List Job} {s : State}

/-- The granted entry is a job of its class before and after it leaves its queue. -/
theorem mem_allJobs_placed (hq : s.arbiter.queues.get k = j :: rest) (hnone : s.arbiter.service.get k = .none) {j' : Job} :
    j' ∈ allJobs (placed k j rest s) ↔ j' ∈ allJobs s := by
  rw [mem_allJobs, mem_allJobs, placed_arbiter]
  refine exists_congr fun x => ?_
  dsimp only
  rw [PerClass.get_set, PerClass.get_set]
  by_cases hx : x = k
  · rw [if_pos hx, if_pos hx, hx, hq, hnone, List.mem_cons]
    simp only [Service.entry, Option.some.injEq, reduceCtorEq, or_false]
    exact or_comm.trans (or_congr_left eq_comm)
  · rw [if_neg hx, if_neg hx]

theorem pinPassesOver_placed (hq : s.arbiter.queues.get k = j :: rest) (hnone : s.arbiter.service.get k = .none) (c : Nat) :
    pinPassesOver (placed k j rest s) c = true ↔
      (∃ i q, s.map.bound c = some (i, q) ∧ (q.valid = BitVec.allOnes 256 ∨ q.queued = true)) ∨
      chunkIn s .bypass c = true ∨ anyJobNames s c = true := by
  obtain ⟨hmap, hranges, _⟩ := placed_frame (k := k) (j := j) (rest := rest) (s := s)
  have hnames : anyJobNames (placed k j rest s) c = anyJobNames s c := by
    refine Bool.eq_iff_iff.mpr ?_
    simp only [anyJobNames, List.any_eq_true, mem_allJobs_placed hq hnone]
  have hbypass : chunkIn (placed k j rest s) .bypass c = chunkIn s .bypass c := by rw [chunkIn, chunkIn, hranges]
  rw [pinPassesOver_iff, hmap, hnames, hbypass]

theorem stallOver_placed (hk : k = .pinFill) : stallOver (placed k j rest s) ↔
    s.stalls = true ∧ rest.length < 16 ∧ s.map.pinnedCount + rest.length < s.params.pinLimit := by
  obtain ⟨hmap, _, hscanner, _, hparams, _⟩ := placed_frame (k := k) (j := j) (rest := rest) (s := s)
  have hdepth : queueDepth (placed k j rest s) .pinFill = rest.length := by
    rw [queueDepth, placed_arbiter, hk]
    dsimp only
    rw [PerClass.get_set_same]
  have hstalls : (placed k j rest s).stalls = s.stalls := by rw [State.stalls, hscanner]; rfl
  rw [stallOver, pinQueueFull, pinLimitHolds, hdepth, hstalls, hmap, hparams]
  simp

/-- The queues that a grant leaves (R61, R122). -/
theorem granted_queues {queue : List Job} (hq : s.arbiter.queues.get k = j :: rest)
    (hnone : s.arbiter.service.get k = .none) (hmode : s.sup.mode = .online) {ended : Prop} {passed : Nat → Prop}
    (hended : ended ↔ k = .pinFill ∧ s.stalls = true ∧ rest.length < 16 ∧
      s.map.pinnedCount + rest.length < s.params.pinLimit)
    (hpassed : ∀ c, passed c ↔ (∃ i q, s.map.bound c = some (i, q) ∧ (q.valid = BitVec.allOnes 256 ∨ q.queued = true)) ∨
      chunkIn s .bypass c = true ∨ anyJobNames s c = true)
    (hqueue : ¬ ended ∧ queue = rest ∨ (∃ e c raised, s.scanner = .scanning e c (.stalled raised) ∧ ended ∧
      (passed c ∧ queue = rest ∨ ¬ passed c ∧ queue = rest ++ [⟨.fill, .chunk c⟩]))) :
    (granted k j rest s).arbiter.queues = s.arbiter.queues.set k queue := by
  obtain ⟨_, _, hscanner, hsup, _⟩ := placed_frame (k := k) (j := j) (rest := rest) (s := s)
  have hplaced : (placed k j rest s).arbiter.queues = s.arbiter.queues.set k rest := by rw [placed_arbiter]
  by_cases hk : k = .pinFill
  · rw [granted_arbiter, if_pos hk]
    rcases hqueue with ⟨hnot, rfl⟩ | ⟨e, c, raised, hstall, hends, hqueue⟩
    · rw [resumeScan_stands fun h => hnot (hended.mpr ⟨hk, (stallOver_placed hk).mp h⟩), hplaced]
    · rw [resumeScan_examines (by rw [hsup, hmode]; nofun) (hscanner.trans hstall)
        ((stallOver_placed hk).mpr (hended.mp hends).2)]
      have hiff := (pinPassesOver_placed hq hnone c).trans (hpassed c).symm
      rcases hqueue with ⟨hp, rfl⟩ | ⟨hp, rfl⟩
      · rw [if_pos (hiff.mpr hp), hplaced]
      · rw [if_neg (fun h => hp (hiff.mp h)), hplaced]
        dsimp only
        rw [hk, PerClass.get_set_same, PerClass.set_set]
  · rcases hqueue with ⟨_, rfl⟩ | ⟨_, _, _, _, hends, _⟩
    · rw [granted_arbiter, if_neg hk, hplaced]
    · exact absurd (hended.mp hends).1 hk

end

/-! ### The state in which the job starts -/

section
variable {k : JobClass} {j : Job} {rest : List Job} {s : State}

theorem granted_choice : (granted k j rest s).choice = s.choice := by
  obtain ⟨_, _, _, _, _, _, _, _, _, hchoice⟩ := placed_frame (k := k) (j := j) (rest := rest) (s := s)
  unfold granted
  dsimp only
  split <;> split <;> simp [hchoice]

theorem granted_sending : Sending s (granted k j rest s) := by
  obtain ⟨hspindle, hdisk⟩ := granted_spindle (k := k) (j := j) (rest := rest) (s := s)
  obtain ⟨_, _, hparams, hflash, _⟩ := granted_frame (k := k) (j := j) (rest := rest) (s := s)
  obtain ⟨hwrites, _, hretry⟩ := actOnNeed_writes s
  refine ⟨congrArg PortUnit.status hflash, ?_, ?_, ?_, hparams, granted_choice⟩
  · rw [hdisk]
    split
    · rw [hwrites]
    · rfl
  · rw [hspindle]
    split
    · exact actOnNeed_running s
    · rfl
  · rw [hspindle]
    split
    · exact hretry
    · rfl

theorem granted_pool : freeRecords (granted k j rest s) = freeRecords s ∧ freeIds (granted k j rest s) = freeIds s := by
  obtain ⟨_, _, _, hflash, hlist, hwithheld, _⟩ := granted_frame (k := k) (j := j) (rest := rest) (s := s)
  have hids : (granted k j rest s).disk.recordIds = s.disk.recordIds := by
    rw [PortUnit.recordIds, PortUnit.recordIds, hlist, hwithheld]
  simp only [freeRecords, poolInUse, freeIds, hflash, hids, and_self]

/-- A Flush-Urgent or Directed job that needs the disk starts a STOPPED spindle (R100, R101). -/
theorem granted_starts (huses : needsDisk s j = true) (hurgent : k.needsRunning = false) (hstopped : s.spindle.state = .stopped)
    (hready : s.disk.status = .ready) (hretry : s.spindle.retryTimer = none) :
    (granted k j rest s).spindle.state = .starting ∧ (granted k j rest s).disk.sent = s.disk.sent ++ [.start] := by
  obtain ⟨hspindle, hdisk⟩ := granted_spindle (k := k) (j := j) (rest := rest) (s := s)
  have hstart : actOnNeed s = sendStart s := by rw [actOnNeed, hstopped]; exact if_pos ⟨hready, hretry⟩
  rw [hspindle, hdisk, if_pos ⟨huses, hurgent⟩, hstart]
  exact ⟨rfl, rfl⟩

theorem settle_starting {b s : State} (h : s.spindle.state = .starting) :
    (settle b s).spindle.state = .starting ∧ (settle b s).disk.sent = s.disk.sent := by
  rw [settle_spindle_state, settle_sent, needed_starting h]
  exact ⟨h, rfl⟩

/-- With both contexts free the job is placed in context 0 (R129). -/
theorem granted_idle (h0 : s.mover.ctx0 = none) (h1 : s.mover.ctx1 = none) :
    grantContext s = .ctx0 ∧ occupiedContexts s = 0 ∧
    (granted k j rest s).mover = { s.mover with ctx0 := some (grantedContext k j (needsDisk s j)) } := by
  have hcontext : grantContext s = .ctx0 := by simp [grantContext, h0]
  obtain ⟨_, _, _, _, _, _, _, hmover, _⟩ := granted_frame (k := k) (j := j) (rest := rest) (s := s)
  refine ⟨hcontext, by simp [occupiedContexts, h0, h1], ?_⟩
  rw [hmover, hcontext]
  rfl

theorem grant_starts (hgrant : nextGrant s = some k) (h0 : s.mover.ctx0 = none) (h1 : s.mover.ctx1 = none)
    (hq : s.arbiter.queues.get k = j :: rest) : exec .grant s =
      .next (settle s (runMover 3 (startJob .ctx0 (granted k j rest s)))) := by
  obtain ⟨hcontext, hidle, _⟩ := granted_idle (k := k) (j := j) (rest := rest) h0 h1
  rw [exec_grant hgrant, grant_idle hq hidle, hcontext]
  rfl

theorem granted_arbiter_idle (h0 : s.mover.ctx0 = none) (h1 : s.mover.ctx1 = none) (hmode : s.sup.mode = .online) :
    (granted k j rest s).arbiter = { s.arbiter with
      queues := (granted k j rest s).arbiter.queues, service := s.arbiter.service.set k (.job .active j .ctx0) } := by
  obtain ⟨hcontext, hidle, _⟩ := granted_idle (k := k) (j := j) (rest := rest) h0 h1
  rw [(granted_arbiter_frame hmode).1, placed_arbiter, hcontext, if_neg (by simp [hidle])]

end

/-! ### The event's end after the first piece -/

theorem putSlot_map_congr {s t : State} (i : Nat) (r : SlotRec) (h : t.map = s.map) :
    (putSlot i r t).map = (putSlot i r s).map :=
  modifySlot_map_congr i (fun _ => r) h

/-- The state after a granted job's slot has changed and its first piece has joined a port's list. -/
def firstIssued (p : Port) (x : Piece) (z : Context) (i : Nat) (r : SlotRec) (s g : State) : State :=
  setPort p (joined ((putSlot i r g).port p) x (maySend p s) (pieceLimit s p))
    { setCtx .ctx0 (some z) (putSlot i r g) with choice := s.choice + 1 }

section
variable {p : Port} {x : Piece} {z : Context} {i : Nat} {r : SlotRec} {s g b : State}

theorem firstIssued_frame : (firstIssued p x z i r s g).arbiter = g.arbiter ∧
    (firstIssued p x z i r s g).map = (putSlot i r g).map ∧ (firstIssued p x z i r s g).params = g.params ∧
    (firstIssued p x z i r s g).heat = g.heat ∧ (firstIssued p x z i r s g).ranges = g.ranges ∧
    (firstIssued p x z i r s g).spindle = g.spindle ∧
    (firstIssued p x z i r s g).mover = { g.mover with ctx0 := some z } := by
  have harbiter : (putSlot i r g).arbiter = g.arbiter := by simp
  have hparams : (putSlot i r g).params = g.params := by simp
  have hheat : (putSlot i r g).heat = g.heat := by simp
  have hranges : (putSlot i r g).ranges = g.ranges := by simp
  have hspindle : (putSlot i r g).spindle = g.spindle := by simp
  have hmover : (putSlot i r g).mover = g.mover := by simp
  cases p <;> exact ⟨harbiter, rfl, hparams, hheat, hranges, hspindle,
    congrArg (fun m : Mover => { m with ctx0 := some z }) hmover⟩

theorem firstIssued_flash : (firstIssued .flash x z i r s g).flash =
      joined g.flash x (maySend .flash s) (pieceLimit s .flash) ∧ (firstIssued .flash x z i r s g).disk = g.disk := by
  have hflash : (putSlot i r g).flash = g.flash := by simp
  have hdisk : (putSlot i r g).disk = g.disk := by simp
  refine ⟨?_, hdisk⟩
  rw [← hflash]
  rfl

theorem firstIssued_disk : (firstIssued .disk x z i r s g).flash = g.flash ∧
    (firstIssued .disk x z i r s g).disk = joined g.disk x (maySend .disk s) (pieceLimit s .disk) := by
  have hflash : (putSlot i r g).flash = g.flash := by simp
  have hdisk : (putSlot i r g).disk = g.disk := by simp
  refine ⟨hflash, ?_⟩
  rw [← hdisk]
  rfl

end

end Sys2Proof.Machine
end

section
/-! O44, continued: the statement. -/

namespace Sys2Proof.Machine

open Sys2Proof.Safety

theorem putSlot_slot {i : Nat} (r : SlotRec) {s : State} (h : i < s.map.slots.length) : (putSlot i r s).slot i = r :=
  modifySlot_slot (fun _ => r) h

/-- The watchdog of a job that starts (R143). -/
def startLimit (s : State) : Option Nat :=
  if s.params.watchdogCode ≠ 0 then some (s.params.watchdogCode * 10) else none

section
variable {k : JobClass} {j : Job} {rest : List Job} {s : State} {i : Nat}

theorem rewatched_limit (x : Context) (hpiece : x.piece = none) (hwatchdog : x.watchdog = none) :
    rewatched s.params.watchdogCode x = { x with watchdog := startLimit s } := by
  have hsame (w : Option Nat) : ({ x with piece := none, watchdog := w } : Context) = { x with watchdog := w } := by
    cases x
    cases hpiece
    rfl
  rw [rewatched, hsame, startLimit, hwatchdog]
  by_cases hcode : s.params.watchdogCode = 0
  · rw [if_pos hcode, if_neg (fun hne => hne hcode)]
  · rw [if_neg hcode, if_pos hcode]

theorem needsRunning_urgent (h : decide (k = .flushUrgent ∨ k = .directed) = true) : k.needsRunning = false := by
  rcases of_decide_eq_true h with rfl | rfl <;> rfl

theorem lowestFree_lt {m : ResidencyMap} (h : m.lowestFree = some i) : i < m.slots.length := by
  obtain ⟨hlt, _⟩ := List.findIdx?_eq_some_iff_getElem.mp h
  exact hlt

theorem runs_ne_zero {b : OffsetSet} {q : Run} {tail : List Run} (h : runs b = q :: tail) : b ≠ 0#256 := by
  rintro rfl
  rw [runs_eq_nil.mpr rfl] at h
  contradiction

/-- The context with which a granted job starts. -/
theorem startJob_granted (h0 : s.mover.ctx0 = none) (h1 : s.mover.ctx1 = none) :
    (granted k j rest s).ctx .ctx0 = some (grantedContext k j (needsDisk s j)) ∧
    rewatched (granted k j rest s).params.watchdogCode (grantedContext k j (needsDisk s j)) =
      { grantedContext k j (needsDisk s j) with watchdog := startLimit s } := by
  obtain ⟨_, _, hmover⟩ := granted_idle (k := k) (j := j) (rest := rest) h0 h1
  obtain ⟨_, _, hparams, _⟩ := granted_frame (k := k) (j := j) (rest := rest) (s := s)
  exact ⟨congrArg Mover.ctx0 hmover, by rw [hparams, rewatched_limit _ rfl rfl]⟩

/-- The granted job issues its first piece from its slot's new record (R131). -/
theorem granted_issues {z z' : Context} {port : Port} {op : PieceOp} {target : PieceTarget} {g : Run} {r : SlotRec}
    (hopen : forcedAtIssue port s = false) (hroom : freeRecords s ≠ 0)
    (hwork : nextWork .ctx0 z (setCtx .ctx0 (some z) (putSlot i r (granted k j rest s))) =
      .issue ⟨port, op, target, g.count, .staging .ctx0 g.first⟩ z') : ∃ id ∈ freeIds s,
      runMover 3 (advance .ctx0 (setCtx .ctx0 (some z) (putSlot i r (granted k j rest s)))) = firstIssued port
        ⟨id, .context .ctx0, op, target, g.count, .staging .ctx0 g.first, false, .waiting, none⟩
        { z' with piece := some id, poolWait := false } i r s (granted k j rest s) := by
  have hsending : Sending s (putSlot i r (granted k j rest s)) := granted_sending.modifySlot i (fun _ => r)
  obtain ⟨hrecords, hids⟩ := pool_congr (s := granted k j rest s) (u := putSlot i r (granted k j rest s)) (by simp) (by simp)
  obtain ⟨hrecords', hids'⟩ := granted_pool (k := k) (j := j) (rest := rest) (s := s)
  exact hsending.issues hopen hroom ⟨hrecords.trans hrecords', hids.trans hids'⟩ hwork 3

/-- A FILL of an unbound chunk is under way (R13, R133, R134). -/
theorem startJob_fills {chunk : Nat} (h0 : s.mover.ctx0 = none) (h1 : s.mover.ctx1 = none)
    (hbypass : chunkIn s .bypass chunk = false) (hunbound : s.map.bound chunk = none) (hfree : s.map.lowestFree = some i)
    (hroom : freeRecords s ≠ 0) (hopen : forcedAtIssue .disk s = false) : ∃ id ∈ freeIds s,
      runMover 3 (startJob .ctx0 (granted k ⟨.fill, .chunk chunk⟩ rest s)) = firstIssued .disk
        ⟨id, .context .ctx0, .read, .disk (chunk * 256), 256, .staging .ctx0 0, false, .waiting, none⟩
        { grantedContext k ⟨.fill, .chunk chunk⟩ true with
          watchdog := startLimit s, slot := some i, phase := .diskRead, readSpan := some (0, 255), piece := some id }
        i (filledSlot s chunk) s (granted k ⟨.fill, .chunk chunk⟩ rest s) := by
  obtain ⟨hctx, hstarted⟩ := startJob_granted (k := k) (j := ⟨.fill, .chunk chunk⟩) (rest := rest) h0 h1
  obtain ⟨hmap, hranges, _⟩ := granted_frame (k := k) (j := ⟨.fill, .chunk chunk⟩) (rest := rest) (s := s)
  have hin (c : PlacementClass) : chunkIn (granted k ⟨.fill, .chunk chunk⟩ rest s) c chunk = chunkIn s c chunk := by
    rw [chunkIn, chunkIn, hranges]
  have hfilled : filledSlot (granted k ⟨.fill, .chunk chunk⟩ rest s) chunk = filledSlot s chunk := by
    rw [filledSlot, filledSlot, hin]
  have hlt : i < (granted k ⟨.fill, .chunk chunk⟩ rest s).map.slots.length := by
    rw [hmap]
    exact lowestFree_lt hfree
  rw [startJob_fill hctx rfl rfl, hstarted, startFill_binds (by rfl) ((hin _).trans hbypass) (by rwa [hmap]) (by rwa [hmap]),
    hfilled]
  have hslot : (putSlot i (filledSlot s chunk) (granted k ⟨.fill, .chunk chunk⟩ rest s)).slot i = filledSlot s chunk :=
    putSlot_slot _ hlt
  have hlo : lowest (~~~(0#256)) = some 0 := lowest_eq_some.mpr ⟨by decide, nofun⟩
  have hhi : highest (~~~(0#256)) = some 255 := highest_eq_some (by decide) fun m hm =>
    BitVec.getLsbD_of_ge _ _ hm
  have hwork := nextWork_diskRead (c := .ctx0) (lo := 0) (hi := 255) (chunk := chunk) (slot := i)
    (x := { grantedContext k ⟨.fill, .chunk chunk⟩ true with
      watchdog := startLimit s, slot := some i, phase := .diskRead })
    (s := setCtx .ctx0 (some { grantedContext k ⟨.fill, .chunk chunk⟩ true with
      watchdog := startLimit s, slot := some i, phase := .diskRead })
      (putSlot i (filledSlot s chunk) (granted k ⟨.fill, .chunk chunk⟩ rest s))) rfl rfl rfl
    (by rw [setCtx_slot, hslot]; exact hlo) (by rw [setCtx_slot, hslot]; exact hhi)
  rw [Nat.add_zero] at hwork
  exact granted_issues (g := ⟨0, 256⟩) hopen hroom hwork

/-- The slot of a granted FLUSH or EVICT (R137). -/
theorem jobSlot_granted (hj : j = ⟨.flush, .slot i⟩ ∨ ∃ c, j.action ≠ .fill ∧ j.target = .chunk c ∧ s.map.slotOf c = some i)
    (uses : Bool) (w : Option Nat) : j.action ≠ .fill ∧
      jobSlot { grantedContext k j uses with watchdog := w } (granted k j rest s) = some i := by
  obtain ⟨hmap, _⟩ := granted_frame (k := k) (j := j) (rest := rest) (s := s)
  rcases hj with rfl | ⟨c, haction, htarget, hslot⟩
  · exact ⟨nofun, rfl⟩
  · refine ⟨haction, ?_⟩
    unfold jobSlot grantedContext
    rw [htarget]
    dsimp only
    rw [if_neg haction, hmap]
    exact hslot

theorem needsDisk_dirty (hj : j = ⟨.flush, .slot i⟩ ∨ ∃ c, j.action ≠ .fill ∧ j.target = .chunk c ∧ s.map.slotOf c = some i)
    (hstate : (s.slot i).state = .resident) (hdirty : (s.slot i).dirty ≠ 0#256) : needsDisk s j = true := by
  have hslot : (s.slot i).isDirty = true := by simp [SlotRec.isDirty, hstate, hdirty]
  rcases hj with rfl | ⟨c, haction, htarget, hbound⟩
  · exact hslot
  · cases hs : s.map.slots[i]? with
    | none => simp [State.slot, hs, SlotRec.free] at hstate
    | some r =>
      rw [State.slot_of_some hs] at hslot
      unfold needsDisk
      rw [htarget]
      dsimp only
      rw [bound_of_slotOf hbound, hs]
      simp [hslot]

/-! ### The end of the event -/

theorem mover_ext {m n : Mover} (h0 : m.ctx0 = n.ctx0) (h1 : m.ctx1 = n.ctx1) (hfailure : m.failure = n.failure) : m = n := by
  cases m
  cases n
  cases h0
  cases h1
  cases hfailure
  rfl

/-- What the grant's event leaves, its first piece issued, beside the ports and context 0. -/
theorem firstIssued_settles {p : Port} {x : Piece} {z : Context} {r : SlotRec} {t : State} (h0 : s.mover.ctx0 = none)
    (h1 : s.mover.ctx1 = none) (hmode : s.sup.mode = .online)
    (ht : t = settle s (firstIssued p x z i r s (granted k j rest s))) :
    t.arbiter = { s.arbiter with
      queues := (granted k j rest s).arbiter.queues, service := s.arbiter.service.set k (.job .active j .ctx0) } ∧
    t.map = (putSlot i r s).map ∧ t.mover = { s.mover with ctx0 := t.ctx .ctx0 } ∧
    t.params = s.params ∧ t.heat = s.heat ∧ t.ranges = s.ranges := by
  obtain ⟨harbiter, hmap, hparams, hheat, hranges, _, hmover⟩ := firstIssued_frame (p := p) (x := x) (z := z) (i := i)
    (r := r) (s := s) (g := granted k j rest s)
  obtain ⟨hgmap, hgranges, hgparams, _, _, _, hgheat, _⟩ := granted_frame (k := k) (j := j) (rest := rest) (s := s)
  obtain ⟨_, _, hgmover⟩ := granted_idle (k := k) (j := j) (rest := rest) h0 h1
  subst ht
  refine ⟨?_, ?_, ?_, (settle_params ..).trans (hparams.trans hgparams), (settle_heat ..).trans (hheat.trans hgheat), ?_⟩
  · rw [settle_arbiter, harbiter]
    exact granted_arbiter_idle h0 h1 hmode
  · rw [settle_map, hmap]
    exact putSlot_map_congr _ _ hgmap
  · have hone : (settle s (firstIssued p x z i r s (granted k j rest s))).ctx .ctx1 = none :=
      settle_ctx_none (by rw [State.ctx, hmover, hgmover]; exact h1)
    have hfailure := settle_failure s (firstIssued p x z i r s (granted k j rest s))
    rw [hmover, hgmover] at hfailure
    exact mover_ext rfl (hone.trans h1.symm) hfailure
  · have hsettled : (settle s (firstIssued p x z i r s (granted k j rest s))).ranges =
      (firstIssued p x z i r s (granted k j rest s)).ranges := by simp
    rw [hsettled, hranges, hgranges]

/-- The disk need of a Flush-Urgent or Directed grant, at the end of the event (R100, R101). -/
theorem firstIssued_starts {p : Port} {x : Piece} {z : Context} {r : SlotRec} (huses : needsDisk s j = true)
    (hurgent : decide (k = .flushUrgent ∨ k = .directed) = true) (hstopped : s.spindle.state = .stopped)
    (hready : s.disk.status = .ready) (hretry : s.spindle.retryTimer = none) :
    (settle s (firstIssued p x z i r s (granted k j rest s))).spindle.state = .starting ∧
    (settle s (firstIssued p x z i r s (granted k j rest s))).disk.sent = s.disk.sent ++ [.start] := by
  obtain ⟨_, _, _, _, _, hspindle, _⟩ := firstIssued_frame (p := p) (x := x) (z := z) (i := i) (r := r) (s := s)
    (g := granted k j rest s)
  obtain ⟨hstarting, hsent⟩ := granted_starts (rest := rest) huses (needsRunning_urgent hurgent) hstopped hready hretry
  have hnot : maySend .disk s = false := by simp [maySend, hstopped]
  have hkept : (firstIssued p x z i r s (granted k j rest s)).disk.sent = (granted k j rest s).disk.sent := by
    cases p
    · rw [firstIssued_flash.2]
    · rw [firstIssued_disk.2, hnot]
      rfl
  obtain ⟨hstate, hlast⟩ := settle_starting (b := s) (s := firstIssued p x z i r s (granted k j rest s))
    (by rw [hspindle, hstarting])
  exact ⟨hstate, by rw [hlast, hkept, hsent]⟩

end

/-- A granted job that ends as it starts, seen from the state its entry has left (R122, R132, R137). -/
theorem granted_ends {k : JobClass} {j : Job} {rest : List Job} {s t v : State} {z : Context} {i : Nat} {e : JobEnd}
    (hk : k ≠ .pinFill) (h0 : s.mover.ctx0 = none) (h1 : s.mover.ctx1 = none) (hmode : s.sup.mode = .online)
    (hheld : s.held .mover = false) (hlast : ∀ y j c, s.arbiter.service.get y ≠ .job .suspended j c)
    (hv : Beside (granted k j rest s) v) (hvmover : v.mover = (granted k j rest s).mover) (hflash : v.flash = s.flash)
    (hlist : v.disk.list = s.disk.list) (hcls : z.cls = k) (hslot : z.slot = some i) (haction : z.action ≠ .fill)
    (habort : z.abort = none) (ht : t = settle s (runMover 3 (endJob .ctx0 e (setCtx .ctx0 (some z) v)))) :
    JobEnded k { s with arbiter := { s.arbiter with queues := s.arbiter.queues.set k rest } } t ∧
    t.mover.ctx0 = none ∧ t.mover.ctx1 = none ∧ t.flash = s.flash ∧ t.disk.list = s.disk.list ∧
    t.map = (modifySlot i SlotRec.afterFlush v).map ∧ t.mover.failure = (recordEnd z e s).mover.failure ∧
    (∀ reason lba, e = .failed reason lba → t.sup.flags.getLsbD 4 = true) := by
  have harbiter := granted_arbiter_idle (k := k) (j := j) (rest := rest) h0 h1 hmode
  have hqueues := (granted_arbiter_frame (k := k) (j := j) (rest := rest) hmode).2.2 (.inl hk)
  obtain ⟨_, _, hgmover⟩ := granted_idle (k := k) (j := j) (rest := rest) h0 h1
  obtain ⟨_, _, hparams, _, _, _, _, _, hholds⟩ := granted_frame (k := k) (j := j) (rest := rest) (s := s)
  obtain ⟨hvarbiter, hvparams, hvscanner, hvholds, _⟩ := hv.setCtx .ctx0 (some z)
  rw [harbiter] at hvarbiter
  have hover := endJob_over (c := .ctx0) (x := z) (e := e) (slot := i) (j := j) (c' := .ctx0)
    (s := setCtx .ctx0 (some z) v) (setCtx_ctx ..) (by rw [State.held, hvholds, hholds]; exact hheld)
    (by rw [habort]; nofun) hslot (by rw [hvarbiter, hcls]; exact PerClass.get_set_same ..)
    (fun y j' c' => by
      rw [hvarbiter]
      dsimp only
      rw [PerClass.get_set]
      split
      · nofun
      · exact hlast y j' c') 3 s
  subst ht
  refine ⟨?_, hover.ctx, hover.other .ctx1 ?_, hover.flash.trans ?_, hover.list.trans ?_, hover.map.trans ?_,
    hover.failure.trans ?_, hover.failed⟩
  · rw [← hcls]
    refine jobEnded_congr hover.job (fun a => ?_) ?_ ?_ ?_ (hvparams.trans hparams) (hvscanner.trans (granted_scanner hk))
    · rw [hvarbiter, hcls]
      exact PerClass.set_set ..
    · rw [hvarbiter]
    · rw [hvarbiter]
    · rw [hvarbiter, hqueues, hcls]
  · have hnone : (granted k j rest s).mover.ctx1 = none := by rw [hgmover]; exact h1
    rw [← hvmover] at hnone
    exact hnone
  · exact hflash
  · exact hlist
  · rw [if_neg haction]
    exact modifySlot_map_congr _ _ rfl
  · cases e with
    | failed reason lba => rfl
    | done =>
      show v.mover.failure = s.mover.failure
      rw [hvmover, hgmover]
    | skipped =>
      show v.mover.failure = s.mover.failure
      rw [hvmover, hgmover]

end Sys2Proof.Machine
end

section
/-! O44, continued: FLUSH and EVICT, and the theorem. -/

namespace Sys2Proof.Machine

open Sys2Proof.Safety

section
variable {k : JobClass} {j : Job} {rest : List Job} {s : State} {i : Nat}

/-- A granted FLUSH or EVICT starts on its slot (R129, R137). -/
theorem startJob_resident (h0 : s.mover.ctx0 = none) (h1 : s.mover.ctx1 = none)
    (hj : j = ⟨.flush, .slot i⟩ ∨ ∃ c, j.action ≠ .fill ∧ j.target = .chunk c ∧ s.map.slotOf c = some i) :
    startJob .ctx0 (granted k j rest s) =
      startFlush .ctx0 { grantedContext k j (needsDisk s j) with watchdog := startLimit s } i
        (setCtx .ctx0 (some { grantedContext k j (needsDisk s j) with watchdog := startLimit s }) (granted k j rest s)) := by
  obtain ⟨hctx, hstarted⟩ := startJob_granted (k := k) (j := j) (rest := rest) h0 h1
  obtain ⟨haction, hslot⟩ := jobSlot_granted (k := k) (rest := rest) hj (needsDisk s j) (startLimit s)
  rw [startJob_flush hctx rfl haction (by rw [hstarted]; exact hslot), hstarted]

theorem granted_slot (i : Nat) : (granted k j rest s).slot i = s.slot i := by
  obtain ⟨hmap, _⟩ := granted_frame (k := k) (j := j) (rest := rest) (s := s)
  rw [State.slot, State.slot, hmap]

/-- A FLUSH or EVICT of a dirty slot is under way (R137, R138). -/
theorem startJob_flushes {q : Run} {tail : List Run} (h0 : s.mover.ctx0 = none) (h1 : s.mover.ctx1 = none)
    (hj : j = ⟨.flush, .slot i⟩ ∨ ∃ c, j.action ≠ .fill ∧ j.target = .chunk c ∧ s.map.slotOf c = some i)
    (hstate : (s.slot i).state = .resident) (hruns : runs (s.slot i).dirty = q :: tail)
    (hroom : freeRecords s ≠ 0) (hopen : forcedAtIssue .flash s = false) : ∃ id ∈ freeIds s,
      runMover 3 (startJob .ctx0 (granted k j rest s)) = firstIssued .flash
        ⟨id, .context .ctx0, .read, .flash i q.first, q.count, .staging .ctx0 q.first, false, .waiting, none⟩
        { grantedContext k j true with
          watchdog := startLimit s, slot := some i, chunk := (s.slot i).chunk, phase := .flashRead, snapshot := q :: tail
          piece := some id }
        i { s.slot i with state := .flushing, redirty := 0#256 } s (granted k j rest s) := by
  have hdirty := runs_ne_zero hruns
  rw [startJob_resident h0 h1 hj, startFlush_dirty (by rw [granted_slot]; exact hstate) (by rw [granted_slot]; exact hdirty),
    knownSlot, granted_slot, hruns, needsDisk_dirty hj hstate hdirty]
  exact granted_issues hopen hroom (nextWork_flashRead rfl rfl rfl)

/-- The context of a granted job of context 0 that knows its slot. -/
def grantedSlot (k : JobClass) (j : Job) (i : Nat) (s : State) : Context :=
  { grantedContext k j (needsDisk s j) with watchdog := startLimit s, slot := some i, chunk := (s.slot i).chunk }

theorem startJob_skips (h0 : s.mover.ctx0 = none) (h1 : s.mover.ctx1 = none)
    (hj : j = ⟨.flush, .slot i⟩ ∨ ∃ c, j.action ≠ .fill ∧ j.target = .chunk c ∧ s.map.slotOf c = some i)
    (hstate : (s.slot i).state = .resident) (hdirty : (s.slot i).dirty = 0#256) (haction : j.action ≠ .evict) :
    startJob .ctx0 (granted k j rest s) =
      endJob .ctx0 .skipped (setCtx .ctx0 (some (grantedSlot k j i s)) (granted k j rest s)) := by
  rw [startJob_resident h0 h1 hj, startFlush_clean (by rw [granted_slot]; exact hstate)
    (by rw [granted_slot]; exact hdirty) haction, knownSlot, granted_slot]
  rfl

theorem startJob_evicts (h0 : s.mover.ctx0 = none) (h1 : s.mover.ctx1 = none)
    (hj : j = ⟨.flush, .slot i⟩ ∨ ∃ c, j.action ≠ .fill ∧ j.target = .chunk c ∧ s.map.slotOf c = some i)
    (hstate : (s.slot i).state = .resident) (hdirty : (s.slot i).dirty = 0#256) (haction : j.action = .evict) :
    startJob .ctx0 (granted k j rest s) = evictCheck .ctx0 { grantedSlot k j i s with phase := .evictCheck }
      (setCtx .ctx0 (some { grantedSlot k j i s with phase := .evictCheck }) (granted k j rest s)) := by
  rw [startJob_resident h0 h1 hj, startFlush_evicts (by rw [granted_slot]; exact hstate)
    (by rw [granted_slot]; exact hdirty) haction, knownSlot, granted_slot]
  exact advance_checks (setCtx_ctx ..) (nextWork_evictCheck rfl)

end

/-! ### Context 0 at the end of the event (R143) -/

section
variable {x : Piece} {z : Context} {i : Nat} {r : SlotRec} {s g : State}

theorem firstIssued_waits (hg : Sending s g) (hpiece : z.piece = some x.id) (hstate : x.state = .waiting) :
    (settle s (firstIssued .disk x z i r s g)).ctx .ctx0 =
      some (if s.spindle.state = .running then z else z.stopWatchdog) := by
  obtain ⟨_, _, _, _, _, hspindle, hmover⟩ := firstIssued_frame (p := .disk) (x := x) (z := z) (i := i) (r := r) (s := s)
    (g := g)
  have hdisk : (firstIssued .disk x z i r s g).disk = _ := firstIssued_disk.2
  have hwaits : waitsForDisk (firstIssued .disk x z i r s g) z = true := by
    unfold waitsForDisk
    rw [hpiece, hdisk]
    exact joined_waits hstate
  have hrunning : (settle s (firstIssued .disk x z i r s g)).spindle.state = .running ↔ s.spindle.state = .running :=
    (settle_running_iff (by rw [hdisk]; exact joined_list_ne_nil)).trans (by rw [hspindle]; exact hg.running)
  have hctx : (firstIssued .disk x z i r s g).ctx .ctx0 = some z := congrArg Mover.ctx0 hmover
  rw [settle_ctx_waiting hctx hwaits]
  simp only [hrunning]

theorem firstIssued_unwaiting (hlist : g.disk.list = s.disk.list) (hpiece : z.piece = some x.id) (hid : x.id ∈ freeIds s) :
    (settle s (firstIssued .flash x z i r s g)).ctx .ctx0 = some z := by
  obtain ⟨_, _, _, _, _, _, hmover⟩ := firstIssued_frame (p := .flash) (x := x) (z := z) (i := i) (r := r) (s := s) (g := g)
  refine settle_ctx_unwaiting (congrArg Mover.ctx0 hmover) ?_
  obtain ⟨_, _, hfree⟩ := mem_freeIds.mp hid
  unfold waitsForDisk
  rw [hpiece, firstIssued_flash.2, hlist, Option.any_some, List.any_eq_false]
  intro y hy hnamed
  have hne : y.id ≠ x.id := fun heq => hfree (List.mem_append_left _ (List.mem_map.mpr ⟨y, hy, heq⟩))
  simp [hne] at hnamed

end

theorem afterFlush_resident {r : SlotRec} (h : r.state = .resident) :
    r.afterFlush = { r with queued := false, redirty := 0#256 } := by
  rw [SlotRec.afterFlush, if_neg (by simp [h]), if_neg (by simp [h])]

/-- Settles O44. -/
theorem grantStartsFill : Obligations.GrantStartsFill := by
  unfold Obligations.GrantStartsFill
  intro s k j rest hgrant h0 h1 hq _ limit urgent starts
  obtain ⟨⟨hmode, hheld, _, hnesting⟩, ⟨heligible, _⟩, _⟩ := nextGrant_eq_some.mp hgrant
  obtain ⟨_, _, hnone, _⟩ := eligible_iff.mp heligible
  have hlast (y : JobClass) (j' : Job) (c' : CtxId) := (nestingUnderway_false.mp hnesting y j' c').2
  have hexec := grant_starts (rest := rest) hgrant h0 h1 hq
  obtain ⟨hgmap, _, _, hgflash, hglist, _⟩ := granted_frame (k := k) (j := j) (rest := rest) (s := s)
  obtain ⟨_, _, hgmover⟩ := granted_idle (k := k) (j := j) (rest := rest) h0 h1
  refine ⟨fun chunk i queue hj hbypass hunbound hfree hroom hdisk hretry => ?fill, fun i hj hstate hk => ?flush⟩
  case fill =>
    intro ended passed hqueue
    subst hj
    obtain ⟨id, hid, hrun⟩ := startJob_fills (k := k) (rest := rest) h0 h1 hbypass hunbound hfree hroom
      (forcedAtIssue_disk hdisk hretry)
    rw [hrun] at hexec
    obtain ⟨harbiter, hmap, hmover, hparams, hheat, hranges⟩ := firstIssued_settles (rest := rest) h0 h1 hmode rfl
    refine ⟨id, hid, _, hexec, harbiter.trans ?_, hmap.trans ?_, hmover.trans ?_, ?_, ?_, ?_, hparams, hheat, hranges⟩
    · rw [granted_queues hq hnone hmode Iff.rfl (fun _ => Iff.rfl) hqueue]
    · exact putSlot_map_eq (by rw [State.slot, List.getElem?_eq_getElem (lowestFree_lt hfree)]; rfl)
    · refine congrArg (fun v : Option Context => { s.mover with ctx0 := v }) ?_
      rw [firstIssued_waits granted_sending (by rfl) (by rfl)]
      by_cases hrunning : s.spindle.state = .running
      · rw [if_pos hrunning, if_pos hrunning]
        rfl
      · rw [if_neg hrunning, if_neg hrunning]
        rfl
    · rw [(settle_lists _ _).1, firstIssued_disk.2]
      exact joined_list_congr hglist
    · exact fun hurgent hstopped hready hretry' => firstIssued_starts rfl hurgent hstopped hready hretry'
    · rw [settle_flash, firstIssued_disk.1, hgflash]
  case flush =>
    intro r left
    refine ⟨fun q tail hruns hroom hflash => ?dirty, fun hclean => ?clean⟩
    case dirty =>
      obtain ⟨id, hid, hrun⟩ := startJob_flushes (k := k) (rest := rest) h0 h1 hj hstate hruns hroom
        (forcedAtIssue_flash hflash)
      rw [hrun] at hexec
      obtain ⟨harbiter, hmap, hmover, hparams, hheat, hranges⟩ := firstIssued_settles (rest := rest) h0 h1 hmode rfl
      have hqueues := (granted_arbiter_frame (k := k) (j := j) (rest := rest) hmode).2.2 (.inl hk)
      refine ⟨id, hid, _, hexec, harbiter.trans ?_, hmap, hmover.trans ?_, ?_, ?_, ?_, hparams, hheat, hranges⟩
      · rw [hqueues]
      · refine congrArg (fun v : Option Context => { s.mover with ctx0 := v }) ?_
        rw [firstIssued_unwaiting hglist (by rfl) (by exact hid)]
        rfl
      · rw [settle_flash, firstIssued_flash.1, hgflash]
      · exact fun hurgent hstopped hready hretry =>
          firstIssued_starts (needsDisk_dirty hj hstate (runs_ne_zero hruns)) hurgent hstopped hready hretry
      · rw [(settle_lists _ _).1, firstIssued_flash.2, hglist]
    case clean =>
      obtain ⟨hnotFill, _⟩ := jobSlot_granted (k := k) (rest := rest) hj (needsDisk s j) (startLimit s)
      have hbeside : Beside (granted k j rest s) (granted k j rest s) := ⟨rfl, rfl, rfl, rfl, rfl⟩
      have hgdisk (r' : SlotRec) : (putSlot i r' (granted k j rest s)).mover = (granted k j rest s).mover ∧
          (putSlot i r' (granted k j rest s)).flash = s.flash ∧
          (putSlot i r' (granted k j rest s)).disk.list = s.disk.list := by simp [hgflash, hglist]
      by_cases hevict : j.action = .evict
      · rw [startJob_evicts h0 h1 hj hstate hclean hevict] at hexec
        have hslot : (setCtx .ctx0 (some { grantedSlot k j i s with phase := .evictCheck })
            (granted k j rest s)).slot i = r := by
          rw [setCtx_slot, granted_slot]
        have hnotFlush : j.action ≠ .flush := by simp [hevict]
        by_cases hbusy : r.pinned = true ∨ r.inflight ≠ 0
        · rw [evictCheck_busy rfl (by rw [hslot]; exact .inr hbusy)] at hexec
          obtain ⟨hjob, hctx0, hctx1, hflash, hlist, hmap, hfailure, hfailed⟩ := granted_ends (i := i) (e := .failed .busy none)
            (z := { grantedSlot k j i s with phase := .evictCheck }) hk h0 h1 hmode hheld
            hlast hbeside rfl hgflash hglist rfl rfl hnotFill rfl rfl
          refine ⟨_, hexec, hjob, hctx0, hctx1, hflash, hlist, fun h => absurd h hnotFlush, fun _ hpinned hinflight => ?_,
            fun _ _ => ⟨hfailure.trans ?_, hfailed _ _ rfl, hmap.trans ?_⟩⟩
          · exact absurd hbusy (by simp [hpinned, hinflight])
          · rw [← hevict]
            rfl
          · rw [← afterFlush_resident hstate]
            exact modifySlot_map_congr _ _ hgmap
        · obtain ⟨hpinned, hinflight⟩ := not_or.mp hbusy
          obtain ⟨hmover', hflash', hlist'⟩ := hgdisk .free
          rw [evictCheck_clean rfl (by rw [hslot]; exact hclean) (by rw [hslot]; simpa using hpinned)
            (by rw [hslot]; simpa using hinflight), putSlot_setCtx] at hexec
          obtain ⟨hjob, hctx0, hctx1, hflash, hlist, hmap, hfailure, _⟩ := granted_ends (i := i) (e := .done)
            (z := { grantedSlot k j i s with phase := .evictCheck }) hk h0 h1 hmode hheld
            hlast (hbeside.putSlot i .free) hmover' hflash' hlist' rfl rfl hnotFill rfl rfl
          refine ⟨_, hexec, hjob, hctx0, hctx1, hflash, hlist, fun h => absurd h hnotFlush,
            fun _ _ _ => ⟨hfailure, hmap.trans ?_⟩, fun _ h => absurd h hbusy⟩
          rw [afterFlush_freed]
          exact putSlot_map_congr _ _ hgmap
      · rw [startJob_skips h0 h1 hj hstate hclean hevict] at hexec
        obtain ⟨hjob, hctx0, hctx1, hflash, hlist, hmap, hfailure, _⟩ := granted_ends (i := i) (e := .skipped)
          (z := grantedSlot k j i s) hk h0 h1 hmode hheld
          hlast hbeside rfl hgflash hglist rfl rfl hnotFill rfl rfl
        refine ⟨_, hexec, hjob, hctx0, hctx1, hflash, hlist, fun _ => ⟨hfailure, hmap.trans ?_⟩,
          fun h => absurd h hevict, fun h => absurd h hevict⟩
        rw [← afterFlush_resident hstate]
        exact modifySlot_map_congr _ _ hgmap

end Sys2Proof.Machine
end
